-- ==== Sys2Proof/Word.lean ====
section
/-!
DEFINITION. The word types of the SIMP core (spec 00_scope.md R5, R8).

Bit 0 is the least significant bit of every value (R7); `+`, `-`, `*` of `BitVec` are the wrap-around operations
of R8; `toNat` is the spec's `u(v)` and `toInt` its `s(v)`.
-/

namespace Sys2Proof

/-- A register, a data-memory word, a disk word or an I/O register word: `XLEN` = 32 bits (R5). -/
abbrev Word := BitVec 32

/-- An instruction-memory slot: `ILEN` = 48 bits (R5, R90). -/
abbrev Slot := BitVec 48

/-- The program counter: `PCLEN` = 12 bits (R5, R25). -/
abbrev PcWord := BitVec 12

/-- A register field of an instruction: 4 bits, so every index it can name exists (R20, R92). -/
abbrev RegIdx := BitVec 4

/-- An immediate field of an instruction: `IMMLEN` = 12 bits (R5, R93). -/
abbrev Imm := BitVec 12

/-- A framebuffer pixel: one byte (R44). -/
abbrev Pixel := BitVec 8

/-- The index of one of the 23 I/O register words, 0 to 22 (R5, R30). -/
abbrev IorIdx := Fin 23

end Sys2Proof
end

