-- ==== Sys2Proof/Syntax.lean ====
section
/-!
DEFINITION. The syntax of the 22 instructions (spec 30_encoding.md R91, R98): one constructor of `Instr` for each row of
the opcode table, each with all six operand fields, because every field is always decoded (R95).
-/

namespace Sys2Proof

/-- The 22 operations, in the order of the default opcode map (R98). `ioIn` and `ioOut` are the spec's `in` and `out`. -/
inductive Op where
  | add | sub | mac | and | or | xor | sll | sra | srl
  | beq | bne | blt | bgt | ble | bge | jal
  | lw | sw
  | reti | ioIn | ioOut | halt
deriving DecidableEq, Repr

/-- The parameter `OPCODE_MAP` (R6): the operation with number `n` is entry `n` of the list. -/
abbrev OpcodeMap := List Op

/-- The six operand fields of the single format (R91). -/
structure Fields where
  rd : RegIdx
  rs : RegIdx
  rt : RegIdx
  rm : RegIdx
  imm1 : Imm
  imm2 : Imm
deriving DecidableEq, Repr

/-- An instruction: its operation and the six fields of the word, used or not (R91, R95). -/
inductive Instr where
  | add (rd rs rt rm : RegIdx) (imm1 imm2 : Imm)
  | sub (rd rs rt rm : RegIdx) (imm1 imm2 : Imm)
  | mac (rd rs rt rm : RegIdx) (imm1 imm2 : Imm)
  | and (rd rs rt rm : RegIdx) (imm1 imm2 : Imm)
  | or (rd rs rt rm : RegIdx) (imm1 imm2 : Imm)
  | xor (rd rs rt rm : RegIdx) (imm1 imm2 : Imm)
  | sll (rd rs rt rm : RegIdx) (imm1 imm2 : Imm)
  | sra (rd rs rt rm : RegIdx) (imm1 imm2 : Imm)
  | srl (rd rs rt rm : RegIdx) (imm1 imm2 : Imm)
  | beq (rd rs rt rm : RegIdx) (imm1 imm2 : Imm)
  | bne (rd rs rt rm : RegIdx) (imm1 imm2 : Imm)
  | blt (rd rs rt rm : RegIdx) (imm1 imm2 : Imm)
  | bgt (rd rs rt rm : RegIdx) (imm1 imm2 : Imm)
  | ble (rd rs rt rm : RegIdx) (imm1 imm2 : Imm)
  | bge (rd rs rt rm : RegIdx) (imm1 imm2 : Imm)
  | jal (rd rs rt rm : RegIdx) (imm1 imm2 : Imm)
  | lw (rd rs rt rm : RegIdx) (imm1 imm2 : Imm)
  | sw (rd rs rt rm : RegIdx) (imm1 imm2 : Imm)
  | reti (rd rs rt rm : RegIdx) (imm1 imm2 : Imm)
  | ioIn (rd rs rt rm : RegIdx) (imm1 imm2 : Imm)
  | ioOut (rd rs rt rm : RegIdx) (imm1 imm2 : Imm)
  | halt (rd rs rt rm : RegIdx) (imm1 imm2 : Imm)
deriving DecidableEq, Repr

/-- The operation of an instruction. -/
def Instr.op : Instr → Op
  | .add _ _ _ _ _ _ => .add
  | .sub _ _ _ _ _ _ => .sub
  | .mac _ _ _ _ _ _ => .mac
  | .and _ _ _ _ _ _ => .and
  | .or _ _ _ _ _ _ => .or
  | .xor _ _ _ _ _ _ => .xor
  | .sll _ _ _ _ _ _ => .sll
  | .sra _ _ _ _ _ _ => .sra
  | .srl _ _ _ _ _ _ => .srl
  | .beq _ _ _ _ _ _ => .beq
  | .bne _ _ _ _ _ _ => .bne
  | .blt _ _ _ _ _ _ => .blt
  | .bgt _ _ _ _ _ _ => .bgt
  | .ble _ _ _ _ _ _ => .ble
  | .bge _ _ _ _ _ _ => .bge
  | .jal _ _ _ _ _ _ => .jal
  | .lw _ _ _ _ _ _ => .lw
  | .sw _ _ _ _ _ _ => .sw
  | .reti _ _ _ _ _ _ => .reti
  | .ioIn _ _ _ _ _ _ => .ioIn
  | .ioOut _ _ _ _ _ _ => .ioOut
  | .halt _ _ _ _ _ _ => .halt

/-- The six operand fields of an instruction. -/
def Instr.fields : Instr → Fields
  | .add rd rs rt rm i1 i2 | .sub rd rs rt rm i1 i2 | .mac rd rs rt rm i1 i2
  | .and rd rs rt rm i1 i2 | .or rd rs rt rm i1 i2 | .xor rd rs rt rm i1 i2
  | .sll rd rs rt rm i1 i2 | .sra rd rs rt rm i1 i2 | .srl rd rs rt rm i1 i2
  | .beq rd rs rt rm i1 i2 | .bne rd rs rt rm i1 i2 | .blt rd rs rt rm i1 i2
  | .bgt rd rs rt rm i1 i2 | .ble rd rs rt rm i1 i2 | .bge rd rs rt rm i1 i2
  | .jal rd rs rt rm i1 i2 | .lw rd rs rt rm i1 i2 | .sw rd rs rt rm i1 i2
  | .reti rd rs rt rm i1 i2 | .ioIn rd rs rt rm i1 i2 | .ioOut rd rs rt rm i1 i2
  | .halt rd rs rt rm i1 i2 => ⟨rd, rs, rt, rm, i1, i2⟩

end Sys2Proof
end

