-- ==== Sys2Proof/Config.lean ====
section
/-!
DEFINITION. What is fixed for one machine: the spec's fixed parameters (00_scope.md R5), its open parameters (R6), and the
one value the spec leaves free (60_exceptions.md R272).
-/

namespace Sys2Proof

/-- `IMEM_SLOTS` (R5). -/
abbrev imemSlots : Nat := 4096

/-- `DMEM_WORDS` (R5). -/
abbrev dmemWords : Nat := 4096

/-- `DISK_SECTORS` (R5). -/
abbrev diskSectors : Nat := 128

/-- `SECTOR_WORDS` (R5). -/
abbrev sectorWords : Nat := 128

/-- All the words of the disk, sector-major (R44, R296). -/
abbrev diskWords : Nat := 16384

/-- The framebuffer's pixels: `FB_ROWS` times `FB_COLS` (R5, R44). -/
abbrev fbPixels : Nat := 65536

/-- `DISK_LATENCY` (R5): cycles from the issue of a DMA command to its completion. -/
abbrev diskLatency : Nat := 1024

/-- The parameter `FAULT_POLICY` (R6): what a load or store outside data memory does. -/
inductive FaultPolicy where
  /-- The machine enters FAULTED (R223). -/
  | hardFault
  /-- The program counter stays and the instruction is fetched again (R194). -/
  | legacyStall
deriving DecidableEq, Repr

/-- The open parameters of R6 that stay with the machine while it runs; the three images are arguments of
`Machine.State.boot`. -/
structure Params where
  /-- `ZERO_REG_HARDWIRED` (R6, R10). -/
  zeroRegHardwired : Bool
  /-- `FAULT_POLICY` (R6, R191). -/
  faultPolicy : FaultPolicy
  /-- `DISK_COUNTDOWN_IN_ISSUE_CYCLE` (R6, R257). -/
  diskCountdownInIssueCycle : Bool
  /-- `OPCODE_MAP` (R6, R98). -/
  opcodeMap : OpcodeMap
  /-- `IRQ2_SCHEDULE` (R6, R129). -/
  irq2Schedule : List Nat
deriving DecidableEq, Repr

/-- FREE VALUE (log entry 10): whether the trace event of a `reti` at I/O address 1 to 22 says WRITE; R272 gives "neither
the direction nor which value is printed". Arguments: the cycle number, the I/O bank, the I/O address. -/
opaque Config.retiTraceIsWrite : Nat → Vector Word 23 → IorIdx → Bool

/-- FREE VALUE (log entry 10): the value in the trace event of a `reti` at I/O address 1 to 22 (R272). -/
opaque Config.retiTraceValue : Nat → Vector Word 23 → IorIdx → Word

end Sys2Proof
end

