-- ==== Sys2Proof/Machine/IorMap.lean ====
section
/-!
DEFINITION. The map of the I/O register bank (spec 10_state.md R30): the address of each of the 23 words. Addresses and names
are the spec's assignment in the order of the source's list (92_eei_decisions.md D3, log entry 3). `simp` writes a name as its address.
-/

namespace Sys2Proof.Machine

/-- Interrupt enable 0 (timer). -/
@[simp] abbrev Ior.irq0enable : IorIdx := 0
/-- Interrupt enable 1 (disk). -/
@[simp] abbrev Ior.irq1enable : IorIdx := 1
/-- Interrupt enable 2 (external). -/
@[simp] abbrev Ior.irq2enable : IorIdx := 2
/-- Interrupt status 0 (timer). -/
@[simp] abbrev Ior.irq0status : IorIdx := 3
/-- Interrupt status 1 (disk completion). -/
@[simp] abbrev Ior.irq1status : IorIdx := 4
/-- Interrupt status 2 (external event). -/
@[simp] abbrev Ior.irq2status : IorIdx := 5
/-- Handler address. -/
@[simp] abbrev Ior.irqhandler : IorIdx := 6
/-- Return address: the pc an interrupt entry saves. -/
@[simp] abbrev Ior.irqreturn : IorIdx := 7
/-- Cycle counter mirror. -/
@[simp] abbrev Ior.clks : IorIdx := 8
/-- LED latch. -/
@[simp] abbrev Ior.leds : IorIdx := 9
/-- 7-segment display latch. -/
@[simp] abbrev Ior.display7seg : IorIdx := 10
/-- Timer enable. -/
@[simp] abbrev Ior.timerenable : IorIdx := 11
/-- Timer current. -/
@[simp] abbrev Ior.timercurrent : IorIdx := 12
/-- Timer max. -/
@[simp] abbrev Ior.timermax : IorIdx := 13
/-- Disk command. -/
@[simp] abbrev Ior.diskcmd : IorIdx := 14
/-- Disk sector. -/
@[simp] abbrev Ior.disksector : IorIdx := 15
/-- Disk buffer: a data-memory address. -/
@[simp] abbrev Ior.diskbuffer : IorIdx := 16
/-- Disk status: 0 idle, 1 busy. -/
@[simp] abbrev Ior.diskstatus : IorIdx := 17
/-- Reserved: plain storage (R38). -/
@[simp] abbrev Ior.reserved0 : IorIdx := 18
/-- Reserved: plain storage (R38). -/
@[simp] abbrev Ior.reserved1 : IorIdx := 19
/-- Monitor address: X in bits 15:8, Y in bits 7:0 (R39). -/
@[simp] abbrev Ior.monitoraddr : IorIdx := 20
/-- Monitor data: the pixel in bits 7:0 (R39). -/
@[simp] abbrev Ior.monitordata : IorIdx := 21
/-- Monitor command: an `out` of 1 commits, an `in` clears (R39). -/
@[simp] abbrev Ior.monitorcmd : IorIdx := 22

/-- The symbolic names of the words, by address (R30), as a trace line prints them (60_exceptions.md R272). -/
def iorNames : List String :=
  ["irq0enable", "irq1enable", "irq2enable", "irq0status", "irq1status", "irq2status",
   "irqhandler", "irqreturn", "clks", "leds", "display7seg",
   "timerenable", "timercurrent", "timermax",
   "diskcmd", "disksector", "diskbuffer", "diskstatus", "reserved0", "reserved1",
   "monitoraddr", "monitordata", "monitorcmd"]

/-- The assembler's names of the general registers, by index (R21). -/
def regNames : List String :=
  ["$zero", "$imm1", "$imm2", "$v0", "$a0", "$a1", "$a2", "$t0", "$t1", "$t2",
   "$s0", "$s1", "$s2", "$gp", "$sp", "$ra"]

end Sys2Proof.Machine
end

