-- ==== Sys2Proof/WellFormed.lean ====
section
/-!
DEFINITION. The domains of the model's inputs. Every 48-bit word decodes and "for an assigned opcode every combination" of
fields is legal (30_encoding.md R96, R103), and the field widths are in the types, so an instruction can be ill-formed in one
way only: its operation has no number in the opcode map it is to be written with.
-/

namespace Sys2Proof

/-- `OPCODE_MAP` is "a bijection from 0..21 to the 22 operations" (92_eei_decisions.md D1): 22 entries, none twice. -/
def OpcodeMap.wf (m : OpcodeMap) : Bool :=
  m.length == 22 && decide m.Nodup

/-- The operation has a number in the map, so the instruction has an encoding. -/
def Instr.wf (m : OpcodeMap) (i : Instr) : Bool :=
  m.contains i.op

/-- Each entry is greater than the one before it (R129), starting above `lo` where it is given. -/
def ascendingFrom (lo : Option Nat) : List Nat → Bool
  | [] => true
  | c :: cs => lo.all (· < c) && ascendingFrom (some c) cs

/-- The domain of `IRQ2_SCHEDULE`: a "strictly ascending finite list of natural numbers" (R6,
93_implementation_defined.md U17). -/
def scheduleWf (cs : List Nat) : Bool :=
  ascendingFrom none cs

/-- Parameters inside the domain R6 gives them. -/
def Params.wf (p : Params) : Bool :=
  p.opcodeMap.wf && scheduleWf p.irq2Schedule

end Sys2Proof
end

