-- ==== Sys2Proof/Decode.lean ====
section
/-!
DEFINITION. Decoding and encoding of the single 48-bit format (spec 30_encoding.md R90 to R98).

```
 47      40 39  36 35  32 31  28 27  24 23          12 11           0
   opcode     rd     rs     rt     rm       imm1          imm2
```
-/

namespace Sys2Proof

/-- Why a word is no instruction. -/
inductive DecodeError where
  /-- The opcode field has no operation in the map (R102). -/
  | unassignedOpcode (opcode : BitVec 8)
deriving DecidableEq, Repr

/-- The default `OPCODE_MAP`: the table of R98, by number 0 to 21 (numbers from the spec's general knowledge, log entry 2). -/
def defaultOpcodeMap : OpcodeMap :=
  [.add, .sub, .mac, .and, .or, .xor, .sll, .sra, .srl,
   .beq, .bne, .blt, .bgt, .ble, .bge, .jal,
   .lw, .sw, .reti, .ioIn, .ioOut, .halt]

/-- Bits 47:40 (R91). All eight are compared (R94). -/
def opcodeField (w : Slot) : BitVec 8 := w.extractLsb' 40 8

/-- The six operand fields of a word (R91). -/
def fieldsOf (w : Slot) : Fields where
  rd := w.extractLsb' 36 4
  rs := w.extractLsb' 32 4
  rt := w.extractLsb' 28 4
  rm := w.extractLsb' 24 4
  imm1 := w.extractLsb' 12 12
  imm2 := w.extractLsb' 0 12

/-- `sext_32` of an immediate field (R8, R93). -/
def sext32 (v : Imm) : Word := v.signExtend 32

/-- The instruction with a given operation and fields. -/
def Op.toInstr (o : Op) (f : Fields) : Instr :=
  match o with
  | .add => .add f.rd f.rs f.rt f.rm f.imm1 f.imm2
  | .sub => .sub f.rd f.rs f.rt f.rm f.imm1 f.imm2
  | .mac => .mac f.rd f.rs f.rt f.rm f.imm1 f.imm2
  | .and => .and f.rd f.rs f.rt f.rm f.imm1 f.imm2
  | .or => .or f.rd f.rs f.rt f.rm f.imm1 f.imm2
  | .xor => .xor f.rd f.rs f.rt f.rm f.imm1 f.imm2
  | .sll => .sll f.rd f.rs f.rt f.rm f.imm1 f.imm2
  | .sra => .sra f.rd f.rs f.rt f.rm f.imm1 f.imm2
  | .srl => .srl f.rd f.rs f.rt f.rm f.imm1 f.imm2
  | .beq => .beq f.rd f.rs f.rt f.rm f.imm1 f.imm2
  | .bne => .bne f.rd f.rs f.rt f.rm f.imm1 f.imm2
  | .blt => .blt f.rd f.rs f.rt f.rm f.imm1 f.imm2
  | .bgt => .bgt f.rd f.rs f.rt f.rm f.imm1 f.imm2
  | .ble => .ble f.rd f.rs f.rt f.rm f.imm1 f.imm2
  | .bge => .bge f.rd f.rs f.rt f.rm f.imm1 f.imm2
  | .jal => .jal f.rd f.rs f.rt f.rm f.imm1 f.imm2
  | .lw => .lw f.rd f.rs f.rt f.rm f.imm1 f.imm2
  | .sw => .sw f.rd f.rs f.rt f.rm f.imm1 f.imm2
  | .reti => .reti f.rd f.rs f.rt f.rm f.imm1 f.imm2
  | .ioIn => .ioIn f.rd f.rs f.rt f.rm f.imm1 f.imm2
  | .ioOut => .ioOut f.rd f.rs f.rt f.rm f.imm1 f.imm2
  | .halt => .halt f.rd f.rs f.rt f.rm f.imm1 f.imm2

/-- Total on 48-bit words (R96): the instruction, or the opcode that has none (R102). -/
def decode (m : OpcodeMap) (w : Slot) : Except DecodeError Instr :=
  match m[(opcodeField w).toNat]? with
  | some o => .ok (o.toInstr (fieldsOf w))
  | none => .error (.unassignedOpcode (opcodeField w))

/-- Lay an opcode number and the six fields out as R91 places them, the opcode most significant. -/
def packFields (opcode : BitVec 8) (f : Fields) : Slot :=
  opcode ++ f.rd ++ f.rs ++ f.rt ++ f.rm ++ f.imm1 ++ f.imm2

/-- The word of an instruction whose operation has a number in the map (`Instr.wf`). -/
def encode (m : OpcodeMap) (i : Instr) : Slot :=
  packFields (BitVec.ofNat 8 (m.idxOf i.op)) i.fields

/-- The instruction the decoder reads, under the default opcode map, from a row of spec/opcode_table.json whose `nbits` bits
are `w`. An instruction is ONE 48-bit word (R90), so bit 0 of the table's number is bit 0 of the slot; a number that does not
fit into a slot is no instruction. -/
def decodeTableWord (nbits w : Nat) : Option Instr :=
  if w % 2 ^ nbits < 2 ^ 48 then
    match decode defaultOpcodeMap (BitVec.ofNat 48 (w % 2 ^ nbits)) with
    | .ok i => some i
    | .error _ => none
  else none

end Sys2Proof
end

