-- ==== Sys2Proof/Machine/Defaults.lean ====
section
/-!
DEFINITION. The default values of the open parameters (spec 00_scope.md R6).
-/

namespace Sys2Proof.Machine

/-- The column "Default" of R6. -/
def defaultParams : Params where
  zeroRegHardwired := false
  faultPolicy := .hardFault
  diskCountdownInIssueCycle := false
  opcodeMap := defaultOpcodeMap
  irq2Schedule := []

end Sys2Proof.Machine
end

