-- ==== Sys2Proof/Machine/Memory.lean ====
section
/-!
DEFINITION. A memory of the machine: an array of cells of one width, indexed from 0 (spec 20_memory.md R60, R64).

The spec's spaces are arrays of whole 48-bit slots, 32-bit words and bytes, and it says that no byte order exists; so a cell
here holds one location of its space, whole (log entry 7). A memory is a list of (address, value) pairs in one canonical form:
addresses strictly rising, no value equal to what an unlisted address reads as. An unlisted address reads as 0, the value R45
gives every location the image has no entry for.
-/

namespace Sys2Proof.Machine

/-- A sparse memory whose locations are `w` bits wide. `Memory 8` is a list of `Host.Cell`. -/
abbrev Memory (w : Nat) := List (Nat × BitVec w)

/-- What a location the list does not name holds: 0 (R45). -/
def Memory.unlisted (w : Nat) : BitVec w := 0

/-- One location. -/
def Memory.read {w : Nat} : Memory w → Nat → BitVec w
  | [], _ => Memory.unlisted w
  | (b, u) :: m, a => if a = b then u else Memory.read m a

/-- The memory without any entry for one address. -/
def Memory.erase {w : Nat} (m : Memory w) (a : Nat) : Memory w :=
  m.filter (fun c => c.1 != a)

/-- An entry put in its place in a list that has none for its address. -/
def Memory.insert {w : Nat} : Memory w → Nat → BitVec w → Memory w
  | [], a, v => [(a, v)]
  | (b, u) :: m, a, v =>
    if a < b then (a, v) :: (b, u) :: m else (b, u) :: Memory.insert m a v

/-- One location written; writing what an unlisted address reads as removes the entry. -/
def Memory.write {w : Nat} (m : Memory w) (a : Nat) (v : BitVec w) : Memory w :=
  if v = Memory.unlisted w then m.erase a else (m.erase a).insert a v

/-- `n` locations of `src` from `sa` on, copied to `dst` from `da` on: the loop of a DMA transfer (60_exceptions.md R256). -/
def Memory.copy {w : Nat} (src dst : Memory w) (sa da : Nat) : Nat → Memory w
  | 0 => dst
  | n + 1 => (Memory.copy src dst sa da n).write (da + n) (src.read (sa + n))

/-- The canonical form from address `lo` on, inside a space of `size` locations. -/
def Memory.wfFrom {w : Nat} (lo size : Nat) : Memory w → Bool
  | [] => true
  | (a, v) :: m => decide (lo ≤ a) && decide (a < size) && v != Memory.unlisted w && Memory.wfFrom (a + 1) size m

/-- The canonical form of a memory of `size` locations. -/
def Memory.wf {w : Nat} (size : Nat) (m : Memory w) : Bool :=
  m.wfFrom 0 size

/-- The image whose entry number `k` goes to location `lo + k` (70_reset_and_hazards.md R296). -/
def Memory.ofImageFrom {w : Nat} (lo : Nat) : List (BitVec w) → Memory w
  | [] => []
  | v :: vs =>
    if v = Memory.unlisted w then Memory.ofImageFrom (lo + 1) vs else (lo, v) :: Memory.ofImageFrom (lo + 1) vs

/-- The image whose entry number `k` goes to location `k` (R296). -/
def Memory.ofImage {w : Nat} (vs : List (BitVec w)) : Memory w :=
  Memory.ofImageFrom 0 vs

end Sys2Proof.Machine
end

