-- ==== Sys2Proof/Machine/State.lean ====
section
/-!
DEFINITION. The state of the machine (spec 10_state.md R20 to R46), its observation streams (60_exceptions.md R270 to R274),
the reasons a step can stop, and the state after reset (R45).
-/

namespace Sys2Proof.Machine

/-- The fault record `(kind, pc, info)` a fault leaves (60_exceptions.md R220, R222). -/
inductive FaultRecord where
  /-- The opcode field has no operation: the pc and the 48-bit word (R221). -/
  | illegalOpcode (pc : PcWord) (word : Slot)
  /-- A load or store outside data memory under `hard_fault`: the pc and the 32-bit sum (R223). -/
  | memAddressFault (pc : PcWord) (ea : Word)
  /-- A DMA command whose sector or buffer is out of range: the pc, the sector and the buffer (R226). -/
  | dmaRangeFault (pc : PcWord) (sector buffer : Word)
deriving DecidableEq, Repr

/-- `run_state` (R43). HALTED and FAULTED are terminal; FAULTED carries its record. -/
inductive RunState where
  | running
  | halted
  | faulted (f : FaultRecord)
deriving DecidableEq, Repr

/-- The kinds of error report (R220). -/
inductive ErrorKind where
  /-- A load or store outside data memory under `legacy_stall` (43_load_store.md R194). -/
  | memAddressError
  /-- An I/O address above 22 (R225). -/
  | ioAddressError
  /-- In the taxonomy, and never reported (R227). -/
  | monitorRangeError
deriving DecidableEq, Repr

/-- The direction of a hardware-register trace event (R272). -/
inductive TraceDir where
  | read
  | write
deriving DecidableEq, Repr

/-- `InstrTrace(pc, w, x[0..15])` (R271). -/
structure InstrTrace where
  pc : PcWord
  word : Slot
  regs : Vector Word 16
deriving DecidableEq, Repr

/-- `HwRegTrace(cycle, dir, a, v)` (R272). -/
structure HwRegTrace where
  cycle : Nat
  dir : TraceDir
  addr : IorIdx
  value : Word
deriving DecidableEq, Repr

/-- `LedLog(cycle, v)` and `SegLog(cycle, v)` (R273). -/
structure LatchLog where
  cycle : Nat
  value : Word
deriving DecidableEq, Repr

/-- `Error(cycle, kind, pc, info)` (R224, R274). -/
structure ErrorEvent where
  cycle : Nat
  kind : ErrorKind
  pc : PcWord
  info : Word
deriving DecidableEq, Repr

/-- The five append-only streams (R270), oldest event first. No rule reads them. -/
structure Observations where
  instrTrace : List InstrTrace
  hwRegTrace : List HwRegTrace
  ledLog : List LatchLog
  segLog : List LatchLog
  errors : List ErrorEvent
deriving DecidableEq, Repr

/-- The whole machine. INVENTORY.md names the rule of each field. -/
structure State where
  /-- The parameters of the machine (00_scope.md R6); no step changes them. -/
  params : Params
  /-- `x[0]` to `x[15]` (R20). -/
  regs : Vector Word 16
  /-- The program counter (R25). -/
  pc : PcWord
  /-- Instruction memory (R28). -/
  imem : Memory 48
  /-- Data memory (R29). -/
  dmem : Memory 32
  /-- The I/O register bank (R30). -/
  ior : Vector Word 23
  /-- `disk_timer` (R40). -/
  diskTimer : Nat
  /-- `issued_this_cycle` (60_exceptions.md R256): lives inside a cycle only. -/
  issuedThisCycle : Bool
  /-- `sched_ptr` (R41). -/
  schedPtr : Nat
  /-- The cycle counter (R42). -/
  cycle : Nat
  /-- `run_state` and the fault record (R43). -/
  runState : RunState
  /-- The disk: word `i` of sector `s` at `s * 128 + i` (R44, R296). -/
  disk : Memory 32
  /-- The framebuffer (R44). -/
  fb : Memory 8
  /-- The observation streams (R270). -/
  obs : Observations
deriving DecidableEq, Repr

/-- Why a step of the machine has no next state. -/
inductive Fault where
  /-- Raised by a step from a FAULTED state, and by nothing else: "no further cycle ever starts" (R222). The record is the one
  the state holds. Safe: the model stops where the machine stops. -/
  | machineFaulted (f : FaultRecord)
deriving DecidableEq, Repr

/-- Why the model gives an instruction no meaning. -/
inductive Refusal where
  /-- Raised by an arm of `exec` for an instruction that has no meaning yet; no arm does. Safe: the model stops. -/
  | notModelled (mnemonic : String)
deriving DecidableEq, Repr

/-- The machine right after reset (R45): default parameters, empty images. -/
def State.reset : State where
  params := defaultParams
  regs := Vector.replicate 16 0
  pc := 0
  imem := []
  dmem := []
  ior := Vector.replicate 23 0
  diskTimer := 0
  issuedThisCycle := false
  schedPtr := 0
  cycle := 0
  runState := .running
  disk := []
  fb := []
  obs := ⟨[], [], [], [], []⟩

end Sys2Proof.Machine
end

