-- ==== Sys2Proof/Machine/Ops.lean ====
section
/-!
DEFINITION. The named operations over registers, memories and the I/O bank; raising a fault, reporting an error, taking an
interrupt and returning from one (spec 00_scope.md R10, R11, 60_exceptions.md R222, R224, R230 to R235).
-/

namespace Sys2Proof.Machine

/-! ## General registers -/

/-- Register 0 when `ZERO_REG_HARDWIRED` is set: it reads as 0 and discards writes (R6, R10). -/
def State.isHardwired (s : State) (r : RegIdx) : Bool :=
  s.params.zeroRegHardwired && r == 0

/-- `x[i]` (R11). -/
def State.readReg (s : State) (r : RegIdx) : Word :=
  if s.isHardwired r then 0 else s.regs[r.toNat]

/-- `x[i] <- v` (R10). -/
def State.writeReg (s : State) (r : RegIdx) (v : Word) : State :=
  { s with regs := if s.isHardwired r then s.regs else s.regs.set r.toNat v }

/-- The decode-time writes `x[1] <- sext_32(imm1)`, `x[2] <- sext_32(imm2)` (40_cycle_engine.md R124). -/
def State.loadImmediates (s : State) (imm1 imm2 : Imm) : State :=
  { s with regs := (s.regs.set 1 (sext32 imm1)).set 2 (sext32 imm2) }

/-- `x[0..15]` as the instruction trace carries them (R271). -/
def State.regSnapshot (s : State) : Vector Word 16 :=
  if s.params.zeroRegHardwired then s.regs.set 0 0 else s.regs

/-! ## Program counter -/

/-- `pc <- t` (R11). -/
def State.setPc (s : State) (t : PcWord) : State := { s with pc := t }

/-- `(pc + 1) mod 4096` (10_state.md R26). -/
def State.nextPc (s : State) : PcWord := s.pc + 1

/-- `pc <- (pc + 1) mod 4096`. -/
def State.advance (s : State) : State := s.setPc s.nextPc

/-- `zext_32` of a program counter (R8). -/
def zext32 (t : PcWord) : Word := t.setWidth 32

/-- Bits 11:0 of a word: the only bits a load of the program counter takes (42_branch_jump.md R178, 10_state.md R33). -/
def low12 (v : Word) : PcWord := v.setWidth 12

/-! ## Memories -/

/-- `IMEM[pc]` (40_cycle_engine.md R123). -/
def State.fetch (s : State) : Slot := s.imem.read s.pc.toNat

/-- `DMEM[a]` (R11). -/
def State.readDmem (s : State) (a : Nat) : Word := s.dmem.read a

/-- `DMEM[a] <- v` (R11). -/
def State.writeDmem (s : State) (a : Nat) (v : Word) : State := { s with dmem := s.dmem.write a v }

/-- The place of word `i` of a sector (R44, R296). -/
def diskAddr (sector i : Nat) : Nat := sector * 128 + i

/-- `DISK[s][i]` (R9). -/
def State.readDisk (s : State) (sector i : Nat) : Word := s.disk.read (diskAddr sector i)

/-- `FB[k]` (R9). -/
def State.readFb (s : State) (k : Nat) : Pixel := s.fb.read k

/-- `FB[k] <- p` (R262). -/
def State.writeFb (s : State) (k : Nat) (p : Pixel) : State := { s with fb := s.fb.write k p }

/-! ## The I/O register bank, without side effects (R11) -/

/-- A bare `IOR[a]`. -/
def State.getIor (s : State) (a : IorIdx) : Word := s.ior[a.val]

/-- A bare `IOR[a] <- v`: all 32 bits (10_state.md R31). -/
def State.setIor (s : State) (a : IorIdx) (v : Word) : State := { s with ior := s.ior.set a.val v }

/-! ## Hidden state -/

/-- `disk_timer <- n` (10_state.md R40). -/
def State.setDiskTimer (s : State) (n : Nat) : State := { s with diskTimer := n }

/-- `issued_this_cycle <- b` (60_exceptions.md R256). -/
def State.setIssued (s : State) (b : Bool) : State := { s with issuedThisCycle := b }

/-- `sched_ptr <- n` (10_state.md R41). -/
def State.setSchedPtr (s : State) (n : Nat) : State := { s with schedPtr := n }

/-- `cycle <- n` (10_state.md R42). -/
def State.setCycle (s : State) (n : Nat) : State := { s with cycle := n }

/-- `run_state <- r` (10_state.md R43). -/
def State.setRunState (s : State) (r : RunState) : State := { s with runState := r }

/-! ## Observation events (R270): each appends to its own stream -/

/-- `emit InstrTrace(pc, w, x[0..15])` (R271). -/
def State.emitInstr (s : State) (w : Slot) : State :=
  { s with obs := { s.obs with instrTrace := s.obs.instrTrace ++ [⟨s.pc, w, s.regSnapshot⟩] } }

/-- `emit HwRegTrace(cycle, dir, a, v)` (R272). -/
def State.emitHw (s : State) (dir : TraceDir) (a : IorIdx) (v : Word) : State :=
  { s with obs := { s.obs with hwRegTrace := s.obs.hwRegTrace ++ [⟨s.cycle, dir, a, v⟩] } }

/-- `emit LedLog(cycle, v)` (R273). -/
def State.emitLed (s : State) (v : Word) : State :=
  { s with obs := { s.obs with ledLog := s.obs.ledLog ++ [⟨s.cycle, v⟩] } }

/-- `emit SegLog(cycle, v)` (R273). -/
def State.emitSeg (s : State) (v : Word) : State :=
  { s with obs := { s.obs with segLog := s.obs.segLog ++ [⟨s.cycle, v⟩] } }

/-- `report E(info)` (R224): an error event and nothing else. -/
def State.report (s : State) (k : ErrorKind) (info : Word) : State :=
  { s with obs := { s.obs with errors := s.obs.errors ++ [⟨s.cycle, k, s.pc, info⟩] } }

/-! ## Faults (R222) -/

/-- How phase P6 of an instruction ended: it ran to its end, or `raise` stopped it where it was. -/
inductive Effect where
  | completed (s : State)
  | raised (s : State)
deriving DecidableEq, Repr

/-- `raise F(info)` (R222): the state the instruction has reached becomes FAULTED and keeps the record. The later phases do not
run because `step` runs them in a RUNNING state only. -/
def State.raiseFault (s : State) (f : FaultRecord) : State := s.setRunState (.faulted f)

/-- What a load or store outside data memory does (43_load_store.md R191): FAULTED under `hard_fault`; under `legacy_stall` an
error report, the program counter unchanged (R194). -/
def State.addressFault (s : State) (ea : Word) : State :=
  match s.params.faultPolicy with
  | .hardFault => s.raiseFault (.memAddressFault s.pc ea)
  | .legacyStall => s.report .memAddressError ea

/-- What an I/O address above 22 does (44_io_system.md R201): an error report, and the next instruction. -/
def State.ioAddressError (s : State) (ioa : Word) : State :=
  (s.report .ioAddressError ioa).advance

/-! ## Interrupts (R229 to R235) -/

/-- `ci`: the bitwise AND of a source's enable and status words (R230). The source is contributing iff it is not 0. -/
def State.contribution (s : State) (enable status : IorIdx) : Word := s.getIor enable &&& s.getIor status

/-- The interrupt line (R230). -/
def State.interruptLine (s : State) : Word :=
  s.contribution Ior.irq0enable Ior.irq0status ||| s.contribution Ior.irq1enable Ior.irq1status |||
    s.contribution Ior.irq2enable Ior.irq2status

/-- `IOR[irqhandler][11:0]` (10_state.md R33). -/
def State.handlerPc (s : State) : PcWord := low12 (s.getIor Ior.irqhandler)

/-- `IOR[irqreturn][11:0]` (10_state.md R33). -/
def State.returnPc (s : State) : PcWord := low12 (s.getIor Ior.irqreturn)

/-- The re-entrancy guard: the comparison and nothing else (R232, 90_conflicts.md C1). -/
def State.guardHolds (s : State) : Bool := s.pc == s.handlerPc

/-- `if c != 0: IOR[status] <- 0` (R233). -/
def State.clearIfContributing (s : State) (status : IorIdx) (c : Word) : State :=
  s.setIor status (if c ≠ 0 then 0 else s.getIor status)

/-- TAKING AN INTERRUPT (R233): the pc goes to the return register, the handler address to the pc, and each contributing status
word is cleared. Nothing else is saved or changed. -/
def State.takeInterrupt (s : State) : State :=
  let c0 := s.contribution Ior.irq0enable Ior.irq0status
  let c1 := s.contribution Ior.irq1enable Ior.irq1status
  let c2 := s.contribution Ior.irq2enable Ior.irq2status
  ((((s.setIor Ior.irqreturn (zext32 s.pc)).setPc s.handlerPc).clearIfContributing Ior.irq0status c0).clearIfContributing
    Ior.irq1status c1).clearIfContributing Ior.irq2status c2

/-- RETURNING FROM AN INTERRUPT (R206, R235): the pc comes from the return register and nothing else changes. -/
def State.returnFromInterrupt (s : State) : State := s.setPc s.returnPc

end Sys2Proof.Machine
end

