-- ==== Sys2Proof/Machine/Devices.lean ====
section
/-!
DEFINITION. The devices: the external source (phase P7), the disk and its DMA (P6, P8), the timer (P9), the interrupt
controller's evaluation (P10), the monitor commit, and the I/O accesses with their side effects
(spec 40_cycle_engine.md R129, 60_exceptions.md R230 to R263).
-/

namespace Sys2Proof.Machine

/-- Phase P7 (R129): the external source pulses in the cycle its next schedule entry names. -/
def State.externalStep (s : State) : State :=
  if s.params.irq2Schedule[s.schedPtr]? = some s.cycle then
    (s.setIor Ior.irq2status 1).setSchedPtr (s.schedPtr + 1)
  else s

/-- The completion of a DMA command (R257). -/
def State.diskComplete (s : State) : State :=
  ((s.setIor Ior.diskstatus 0).setIor Ior.diskcmd 0).setIor Ior.irq1status 1

/-- `disk_timer != 0` and the countdown is not put off to the next cycle (R257, 90_conflicts.md C2). -/
def State.diskCounts (s : State) : Bool :=
  s.diskTimer != 0 && !(s.issuedThisCycle && !s.params.diskCountdownInIssueCycle)

/-- Phase P8 (R257). The mark `issued_this_cycle` ends here (R256). -/
def State.diskStep (s : State) : State :=
  let t := s.setIssued false
  if s.diskCounts then
    if s.diskTimer - 1 = 0 then (t.setDiskTimer (s.diskTimer - 1)).diskComplete
    else t.setDiskTimer (s.diskTimer - 1)
  else t

/-- Phase P9 (R250): increment modulo 2^32, then compare. -/
def State.timerStep (s : State) : State :=
  if s.getIor Ior.timerenable = 1 then
    if s.getIor Ior.timercurrent + 1 = s.getIor Ior.timermax then
      (s.setIor Ior.irq0status 1).setIor Ior.timercurrent 0
    else s.setIor Ior.timercurrent (s.getIor Ior.timercurrent + 1)
  else s

/-- Phase P10 (R230 to R233): entry iff the line is raised and the guard does not hold. -/
def State.interruptStep (s : State) : State :=
  if s.interruptLine ≠ 0 ∧ s.guardHolds = false then s.takeInterrupt else s

/-- The launch test of R256: the disk idle and a command code 1 (read) or 2 (write). -/
def State.dmaLaunches (s : State) (v : Word) : Bool :=
  s.getIor Ior.diskstatus == 0 && (v == 1 || v == 2)

/-- `u(s) > 127 or u(b) > 3968` (R226). -/
def State.dmaOutOfRange (s : State) : Bool :=
  decide (127 < (s.getIor Ior.disksector).toNat) || decide (3968 < (s.getIor Ior.diskbuffer).toNat)

/-- The 128-word copy of command `v`: 1 from the sector to data memory, 2 from data memory to the sector (R256). -/
def State.dmaCopy (s : State) (v : Word) : State :=
  let sa := diskAddr (s.getIor Ior.disksector).toNat 0
  let da := (s.getIor Ior.diskbuffer).toNat
  { s with
    dmem := if v = 1 then Memory.copy s.disk s.dmem sa da 128 else s.dmem
    disk := if v = 2 then Memory.copy s.dmem s.disk da sa 128 else s.disk }

/-- `DmaIssue(v)` (R256). -/
def State.dmaIssue (s : State) (v : Word) : Effect :=
  if s.dmaLaunches v then
    if s.dmaOutOfRange then
      .raised (s.raiseFault (.dmaRangeFault s.pc (s.getIor Ior.disksector) (s.getIor Ior.diskbuffer)))
    else
      .completed ((((s.dmaCopy v).setIor Ior.diskstatus 1).setDiskTimer diskLatency).setIssued true)
  else .completed s

/-- The framebuffer place `X*256 + Y` of a monitor address, X in bits 15:8 and Y in bits 7:0 (R262). -/
def pixelAddr (v : Word) : Nat :=
  (v.extractLsb' 8 8).toNat * 256 + (v.extractLsb' 0 8).toNat

/-- `MonitorCommit` (R262): the low byte of `monitordata`. -/
def State.monitorCommit (s : State) : State :=
  s.writeFb (pixelAddr (s.getIor Ior.monitoraddr)) ((s.getIor Ior.monitordata).extractLsb' 0 8)

/-- `IoRead(a)` (R240, R241): the word, and the state after it; only a read of `monitorcmd` changes anything. -/
def State.ioRead (s : State) (a : IorIdx) : Word × State :=
  (s.getIor a, if a = Ior.monitorcmd then s.setIor Ior.monitorcmd 0 else s)

/-- `IoWrite(a, v)` with the trace event of an `out` (R205, R242, R247 to R249): the store is unconditional. -/
def State.ioWrite (s : State) (a : IorIdx) (v : Word) : Effect :=
  let t := (s.setIor a v).emitHw .write a v
  if a = Ior.leds then .completed (t.emitLed v)
  else if a = Ior.display7seg then .completed (t.emitSeg v)
  else if a = Ior.diskcmd then t.dmaIssue v
  else if a = Ior.monitorcmd then .completed (if v = 1 then t.monitorCommit else t)
  else .completed t

end Sys2Proof.Machine
end

