-- ==== Sys2Proof/Machine/Cycle.lean ====
section
/-!
DEFINITION. The phases around an instruction (spec 40_cycle_engine.md R120 to R125, R129, R133).
-/

namespace Sys2Proof.Machine

/-- Phases P1 and P2 (R121, R122): the cycle number into `clks`, the external pulse cleared. A cycle starts with no DMA issued in
it (R256: the mark is transient). -/
def State.beginCycle (s : State) : State :=
  ((s.setIssued false).setIor Ior.clks (BitVec.ofNat 32 s.cycle)).setIor Ior.irq2status 0

/-- Phases P4 and P5 for the word `w` (R124, R125): the immediates into registers 1 and 2, then the trace event. -/
def State.loadAndTrace (s : State) (w : Slot) : State :=
  (s.loadImmediates (fieldsOf w).imm1 (fieldsOf w).imm2).emitInstr w

/-- Phases P1 to P5: the state an instruction executes in. -/
def State.prepared (s : State) : State := s.beginCycle.loadAndTrace s.beginCycle.fetch

/-- Phases P7 to P11 (R120). -/
def State.endCycle (s : State) : State :=
  (s.externalStep.diskStep.timerStep.interruptStep).setCycle (s.cycle + 1)

/-- The rest of the cycle after phase P6: it runs in a RUNNING state only (R127, R222). -/
def State.finish (s : State) : State :=
  match s.runState with
  | .running => s.endCycle
  | .halted => s
  | .faulted _ => s

/-- The word stored where the machine fetches next. -/
def State.storeSlot (s : State) (w : Slot) : State := { s with imem := s.imem.write s.pc.toNat w }

end Sys2Proof.Machine
end

