-- ==== Sys2Proof/Machine/Operands.lean ====
section
/-!
DEFINITION. The operand forms: a register, the data address, the I/O address, the shift amount, the branch target
(spec 30_encoding.md R92, 41_arith_logic.md R157, 42_branch_jump.md R178, 43_load_store.md R190, 44_io_system.md R200, R201).
-/

namespace Sys2Proof.Machine

/-- The effective address `(x[rs] + x[rt]) mod 2^32`: a word index (R190). -/
def State.effAddr (s : State) (rs rt : RegIdx) : Word := s.readReg rs + s.readReg rt

/-- The range check `u(ea) < 4096` (R191). -/
def inDmem (ea : Word) : Bool := ea.toNat < 4096

/-- The I/O address `(x[rs] + x[rt]) mod 2^32` (R200). -/
def State.ioAddr (s : State) (rs rt : RegIdx) : Word := s.readReg rs + s.readReg rt

/-- The I/O range check `u(ioa) <= 22` (R201): the word of the bank it names, if any. -/
def ioSlot (ioa : Word) : Option IorIdx :=
  if h : ioa.toNat < 23 then some ⟨ioa.toNat, h⟩ else none

/-- `x[rt][4:0]` as an unsigned number (R157). -/
def State.shiftAmount (s : State) (rt : RegIdx) : Nat := ((s.readReg rt).extractLsb' 0 5).toNat

/-- `x[rm][11:0]` (R178). -/
def State.branchTarget (s : State) (rm : RegIdx) : PcWord := low12 (s.readReg rm)

end Sys2Proof.Machine
end

