-- ==== Sys2Proof/Machine/ArithLogic.lean ====
section
/-!
DEFINITION. The nine arithmetic and logic instructions (spec 41_arith_logic.md R150 to R162). The sources are read before the
destination is written (R150); registers 1 and 2 hold the instruction's own immediates already (R124).
-/

namespace Sys2Proof.Machine

/-- The common end of the nine: `x[rd] <- r`, then the next instruction (R150). -/
def State.aluResult (s : State) (rd : RegIdx) (r : Word) : State := (s.writeReg rd r).advance

/-- `add` (R151): `x[rs] + x[rt] + x[rm]`. -/
def execAdd (rd rs rt rm : RegIdx) (s : State) : Host.Outcome State Fault Refusal :=
  .next (s.aluResult rd (s.readReg rs + s.readReg rt + s.readReg rm))

/-- `sub` (R152): both `x[rt]` and `x[rm]` are subtracted. -/
def execSub (rd rs rt rm : RegIdx) (s : State) : Host.Outcome State Fault Refusal :=
  .next (s.aluResult rd (s.readReg rs - s.readReg rt - s.readReg rm))

/-- `mac` (R153): the low 32 bits of `x[rs] * x[rt]`, plus `x[rm]`. -/
def execMac (rd rs rt rm : RegIdx) (s : State) : Host.Outcome State Fault Refusal :=
  .next (s.aluResult rd (s.readReg rs * s.readReg rt + s.readReg rm))

/-- `and` (R154), across all three operands. -/
def execAnd (rd rs rt rm : RegIdx) (s : State) : Host.Outcome State Fault Refusal :=
  .next (s.aluResult rd (s.readReg rs &&& s.readReg rt &&& s.readReg rm))

/-- `or` (R155), across all three operands. -/
def execOr (rd rs rt rm : RegIdx) (s : State) : Host.Outcome State Fault Refusal :=
  .next (s.aluResult rd (s.readReg rs ||| s.readReg rt ||| s.readReg rm))

/-- `xor` (R156), across all three operands. -/
def execXor (rd rs rt rm : RegIdx) (s : State) : Host.Outcome State Fault Refusal :=
  .next (s.aluResult rd (s.readReg rs ^^^ s.readReg rt ^^^ s.readReg rm))

/-- `sll` (R158): zeros enter at bit 0. `rm` is not read (R157). -/
def execSll (rd rs rt : RegIdx) (s : State) : Host.Outcome State Fault Refusal :=
  .next (s.aluResult rd (s.readReg rs <<< s.shiftAmount rt))

/-- `sra` (R159): copies of bit 31 enter at the top. -/
def execSra (rd rs rt : RegIdx) (s : State) : Host.Outcome State Fault Refusal :=
  .next (s.aluResult rd ((s.readReg rs).sshiftRight (s.shiftAmount rt)))

/-- `srl` (R160): zeros enter at the top. -/
def execSrl (rd rs rt : RegIdx) (s : State) : Host.Outcome State Fault Refusal :=
  .next (s.aluResult rd (s.readReg rs >>> s.shiftAmount rt))

end Sys2Proof.Machine
end

