-- ==== Sys2Proof/Machine/Flags.lean ====
section
/-!
DEFINITION. The hardware has no flags, condition codes or predicate registers (spec 10_state.md R27): a comparison lives inside
the branch that makes it. This file holds the six conditions (42_branch_jump.md R170 to R176); the four ordering conditions
compare two's-complement numbers.
-/

namespace Sys2Proof.Machine

/-- `a == b`: all 32 bits (R171). -/
def condEq (a b : Word) : Bool := a == b

/-- `a != b` (R172). -/
def condNe (a b : Word) : Bool := a != b

/-- `a <s b` (R173). -/
def condLt (a b : Word) : Bool := a.toInt < b.toInt

/-- `a >s b` (R174). -/
def condGt (a b : Word) : Bool := b.toInt < a.toInt

/-- `a <=s b` (R175). -/
def condLe (a b : Word) : Bool := a.toInt ≤ b.toInt

/-- `a >=s b` (R176). -/
def condGe (a b : Word) : Bool := b.toInt ≤ a.toInt

end Sys2Proof.Machine
end

