-- ==== Sys2Proof/Machine/BranchJump.lean ====
section
/-!
DEFINITION. The six compare-and-branch instructions and `jal` (spec 42_branch_jump.md R170 to R179). There are no delay slots.
-/

namespace Sys2Proof.Machine

/-- The common form of the six (R170): the absolute target `x[rm][11:0]` if the condition holds, else the next instruction. -/
def State.branchIf (s : State) (taken : Bool) (rm : RegIdx) : State :=
  s.setPc (if taken then s.branchTarget rm else s.nextPc)

/-- `beq` (R171). -/
def execBeq (rs rt rm : RegIdx) (s : State) : Host.Outcome State Fault Refusal :=
  .next (s.branchIf (condEq (s.readReg rs) (s.readReg rt)) rm)

/-- `bne` (R172). -/
def execBne (rs rt rm : RegIdx) (s : State) : Host.Outcome State Fault Refusal :=
  .next (s.branchIf (condNe (s.readReg rs) (s.readReg rt)) rm)

/-- `blt` (R173). -/
def execBlt (rs rt rm : RegIdx) (s : State) : Host.Outcome State Fault Refusal :=
  .next (s.branchIf (condLt (s.readReg rs) (s.readReg rt)) rm)

/-- `bgt` (R174). -/
def execBgt (rs rt rm : RegIdx) (s : State) : Host.Outcome State Fault Refusal :=
  .next (s.branchIf (condGt (s.readReg rs) (s.readReg rt)) rm)

/-- `ble` (R175). -/
def execBle (rs rt rm : RegIdx) (s : State) : Host.Outcome State Fault Refusal :=
  .next (s.branchIf (condLe (s.readReg rs) (s.readReg rt)) rm)

/-- `bge` (R176). -/
def execBge (rs rt rm : RegIdx) (s : State) : Host.Outcome State Fault Refusal :=
  .next (s.branchIf (condGe (s.readReg rs) (s.readReg rt)) rm)

/-- `jal` (R177): the link value is written first, and the target register is read AFTER that. -/
def execJal (rd rm : RegIdx) (s : State) : Host.Outcome State Fault Refusal :=
  let t := s.writeReg rd (zext32 s.nextPc)
  .next (t.setPc (t.branchTarget rm))

end Sys2Proof.Machine
end

