-- ==== Sys2Proof/Machine/IoSystem.lean ====
section
/-!
DEFINITION. `reti`, `in`, `out` and `halt` (spec 44_io_system.md R200 to R208). None is privileged: there is one mode (R236).
-/

namespace Sys2Proof.Machine

/-- The trace event of a `reti` whose I/O address is not 0 (R206, R272): direction and value are free values. -/
def State.emitReti (s : State) (a : IorIdx) : State :=
  if a = 0 then s
  else
    s.emitHw (if Config.retiTraceIsWrite s.cycle s.ior a then .write else .read) a
      (Config.retiTraceValue s.cycle s.ior a)

/-- `reti` (R206): subject to the I/O range check, then the return. -/
def execReti (rs rt : RegIdx) (s : State) : Host.Outcome State Fault Refusal :=
  let ioa := s.ioAddr rs rt
  .next (match ioSlot ioa with
    | none => s.ioAddressError ioa
    | some a => s.returnFromInterrupt.emitReti a)

/-- `in` (R203): `x[rd]` gets the value the word held before a clear of `monitorcmd`. -/
def execIn (rd rs rt : RegIdx) (s : State) : Host.Outcome State Fault Refusal :=
  let ioa := s.ioAddr rs rt
  .next (match ioSlot ioa with
    | none => s.ioAddressError ioa
    | some a => (((s.ioRead a).2.writeReg rd (s.ioRead a).1).emitHw .read a (s.ioRead a).1).advance)

/-- `out` (R205): the store and its side effect, then the next instruction unless the side effect raised a fault. -/
def execOut (rs rt rm : RegIdx) (s : State) : Host.Outcome State Fault Refusal :=
  let ioa := s.ioAddr rs rt
  .next (match ioSlot ioa with
    | none => s.ioAddressError ioa
    | some a =>
      match s.ioWrite a (s.readReg rm) with
      | .completed t => t.advance
      | .raised t => t)

/-- `halt` (R207, R127): HALTED with the cycle counter advanced once more, or parked while a DMA is outstanding. -/
def execHalt (s : State) : Host.Outcome State Fault Refusal :=
  .next (if s.diskTimer = 0 then (s.setRunState .halted).setCycle (s.cycle + 1) else s)

end Sys2Proof.Machine
end

