-- ==== Sys2Proof/Machine/LoadStore.lean ====
section
/-!
DEFINITION. `lw` and `sw` (spec 43_load_store.md R190 to R195).
-/

namespace Sys2Proof.Machine

/-- `lw` (R192): the word at the effective address plus `x[rm]`; outside data memory, the address fault of R191. -/
def execLw (rd rs rt rm : RegIdx) (s : State) : Host.Outcome State Fault Refusal :=
  let ea := s.effAddr rs rt
  .next (if inDmem ea then (s.writeReg rd (s.readDmem ea.toNat + s.readReg rm)).advance else s.addressFault ea)

/-- `sw` (R193): `x[rd] + x[rm]` goes to the effective address; `rd` is a source. -/
def execSw (rd rs rt rm : RegIdx) (s : State) : Host.Outcome State Fault Refusal :=
  let ea := s.effAddr rs rt
  .next (if inDmem ea then (s.writeDmem ea.toNat (s.readReg rd + s.readReg rm)).advance else s.addressFault ea)

end Sys2Proof.Machine
end

