-- ==== Sys2Proof/Machine/Dispatch.lean ====
section
/-!
DEFINITION. Phase P6: one arm for each instruction (spec 40_cycle_engine.md R126 to R128). Registers 1 and 2 have been loaded
with the immediates in phase P4, so a meaning takes the register fields it uses (30_encoding.md R95).
-/

namespace Sys2Proof.Machine

def exec (i : Instr) (s : State) : Host.Outcome State Fault Refusal :=
  match i with
  | .add rd rs rt rm _ _ => Sys2Proof.Machine.execAdd rd rs rt rm s
  | .sub rd rs rt rm _ _ => Sys2Proof.Machine.execSub rd rs rt rm s
  | .mac rd rs rt rm _ _ => Sys2Proof.Machine.execMac rd rs rt rm s
  | .and rd rs rt rm _ _ => Sys2Proof.Machine.execAnd rd rs rt rm s
  | .or rd rs rt rm _ _ => Sys2Proof.Machine.execOr rd rs rt rm s
  | .xor rd rs rt rm _ _ => Sys2Proof.Machine.execXor rd rs rt rm s
  | .sll rd rs rt _ _ _ => Sys2Proof.Machine.execSll rd rs rt s
  | .sra rd rs rt _ _ _ => Sys2Proof.Machine.execSra rd rs rt s
  | .srl rd rs rt _ _ _ => Sys2Proof.Machine.execSrl rd rs rt s
  | .beq _ rs rt rm _ _ => Sys2Proof.Machine.execBeq rs rt rm s
  | .bne _ rs rt rm _ _ => Sys2Proof.Machine.execBne rs rt rm s
  | .blt _ rs rt rm _ _ => Sys2Proof.Machine.execBlt rs rt rm s
  | .bgt _ rs rt rm _ _ => Sys2Proof.Machine.execBgt rs rt rm s
  | .ble _ rs rt rm _ _ => Sys2Proof.Machine.execBle rs rt rm s
  | .bge _ rs rt rm _ _ => Sys2Proof.Machine.execBge rs rt rm s
  | .jal rd _ _ rm _ _ => Sys2Proof.Machine.execJal rd rm s
  | .lw rd rs rt rm _ _ => Sys2Proof.Machine.execLw rd rs rt rm s
  | .sw rd rs rt rm _ _ => Sys2Proof.Machine.execSw rd rs rt rm s
  | .reti _ rs rt _ _ _ => Sys2Proof.Machine.execReti rs rt s
  | .ioIn rd rs rt _ _ _ => Sys2Proof.Machine.execIn rd rs rt s
  | .ioOut _ rs rt rm _ _ => Sys2Proof.Machine.execOut rs rt rm s
  | .halt _ _ _ _ _ _ => Sys2Proof.Machine.execHalt s

end Sys2Proof.Machine
end

