-- ==== Sys2Proof/Machine/Execute.lean ====
section
/-!
DEFINITION. Phase P6 and what follows it, for a fetched word (spec 40_cycle_engine.md R126 to R128, R136).
-/

namespace Sys2Proof.Machine

/-- Phase P6 on what the decoder made of the word, and the rest of the cycle. An unassigned opcode raises `IllegalOpcode`
(R102, R126). -/
def State.executeWord (s : State) (w : Slot) : Host.Outcome State Fault Refusal :=
  match decode s.params.opcodeMap w with
  | .error _ => .next (s.raiseFault (.illegalOpcode s.pc w))
  | .ok i =>
    match exec i s with
    | .next t => .next t.finish
    | .fault r => .fault r
    | .refused r => .refused r

end Sys2Proof.Machine
end

