-- ==== Sys2Proof/Machine/Step.lean ====
section
/-!
DEFINITION. One step is one cycle (spec 40_cycle_engine.md R120, R136).
-/

namespace Sys2Proof.Machine

/-- The machine's step: one cycle from a RUNNING state. HALTED is terminal and all state survives (60_exceptions.md R267): the
step changes nothing. FAULTED is terminal and never final (R222): the step is a fault. -/
def step (s : State) : Host.Outcome State Fault Refusal :=
  match s.runState with
  | .running => s.prepared.executeWord s.beginCycle.fetch
  | .halted => .next s
  | .faulted f => .fault (.machineFaulted f)

/-- The instruction of `nbits` bits `w` (bit 0 the least significant bit of the slot, the bits above `nbits` 0) loaded into the
slot the next step fetches: the load of the program image (10_state.md R45, log entry 8). -/
def State.withFetchWord (s : State) (nbits w : Nat) : State :=
  s.storeSlot (BitVec.ofNat 48 (w % 2 ^ nbits))

end Sys2Proof.Machine
end

