-- ==== Sys2Proof/Machine/Boot.lean ====
section
/-!
DEFINITION. The reset event with its images (spec 10_state.md R45, 70_reset_and_hazards.md R290, R291, R296).
-/

namespace Sys2Proof.Machine

/-- The three initial images (00_scope.md R6): instruction line `k` goes to `IMEM[k]`, data word `k` to `DMEM[k]`, disk word `k`
to `DISK[k div 128][k mod 128]` (R296). -/
structure Images where
  imem : List Slot
  dmem : List Word
  disk : List Word
deriving DecidableEq, Repr

/-- Why the loader rejects its inputs (93_implementation_defined.md U17, U18). -/
inductive BootError where
  /-- An image has more entries than its memory has locations. -/
  | imageTooLong
  /-- A parameter is outside the domain R6 gives it. -/
  | parameterOutOfDomain
deriving DecidableEq, Repr

/-- Every image fits its memory (R296). -/
def Images.fit (im : Images) : Bool :=
  decide (im.imem.length ≤ imemSlots) && decide (im.dmem.length ≤ dmemWords) && decide (im.disk.length ≤ diskWords)

/-- Every piece of state takes the value of R45 and the images are loaded (R290). -/
def State.boot (p : Params) (im : Images) : Except BootError State :=
  if !im.fit then .error .imageTooLong
  else if !p.wf then .error .parameterOutOfDomain
  else
    .ok { State.reset with
      params := p
      imem := Memory.ofImage im.imem
      dmem := Memory.ofImage im.dmem
      disk := Memory.ofImage im.disk }

end Sys2Proof.Machine
end

