-- ==== Sys2Proof/Safety.lean ====
section
/-!
DEFINITION. The terms claims are stated in: a run without a fault, the invariants of the machine, and the frames (what one state
leaves as another has it). Memory frames speak through the reads of the spec's five spaces (20_memory.md R60).
-/

namespace Sys2Proof.Machine

/-- "a claim takes \"`run_state` is not FAULTED\" as a premise" (40_cycle_engine.md R134). -/
def State.NotFaulted (s : State) : Prop := ∀ f, s.runState ≠ .faulted f

/-! ## Invariants -/

/-- The four memories are in canonical form and inside their spaces (R60). -/
abbrev State.MemoriesWf (s : State) : Prop :=
  s.imem.wf 4096 = true ∧ s.dmem.wf 4096 = true ∧ s.disk.wf 16384 = true ∧ s.fb.wf 65536 = true

/-- The hidden counters are in the ranges of 10_state.md R40 and R41. -/
abbrev State.HiddenInRange (s : State) : Prop :=
  s.diskTimer ≤ 1024 ∧ s.schedPtr ≤ s.params.irq2Schedule.length

/-- With `ZERO_REG_HARDWIRED`, register 0 holds 0 (00_scope.md R6). -/
abbrev State.ZeroRegHolds (s : State) : Prop :=
  s.params.zeroRegHardwired = true → s.regs[0] = 0

/-- What every step keeps. -/
abbrev State.Inv (s : State) : Prop :=
  s.MemoriesWf ∧ s.HiddenInRange ∧ s.ZeroRegHolds ∧ s.issuedThisCycle = false

/-- The schedule is "consumed strictly in order, never replayed" (10_state.md R41): while the machine is RUNNING, the consumed
entries are the ones before the current cycle and the others are not (40_cycle_engine.md R129). -/
abbrev State.ScheduleInv (s : State) : Prop :=
  s.runState = .running →
    (∀ c ∈ s.params.irq2Schedule.take s.schedPtr, c < s.cycle) ∧
    (∀ c ∈ s.params.irq2Schedule.drop s.schedPtr, s.cycle ≤ c)

/-! ## Frames: what `t` has as `s` has it -/

/-- Every location of the four memories reads the same. -/
abbrev State.SameMemories (s t : State) : Prop :=
  (∀ a, t.imem.read a = s.imem.read a) ∧ (∀ a, t.readDmem a = s.readDmem a) ∧
    (∀ a, t.disk.read a = s.disk.read a) ∧ (∀ k, t.readFb k = s.readFb k)

/-- Every general register reads the same. -/
abbrev State.SameRegs (s t : State) : Prop := ∀ r, t.readReg r = s.readReg r

/-- Every word of the I/O bank is the same: the interrupt, timer, disk and monitor words among them. -/
abbrev State.SameIor (s t : State) : Prop := ∀ a, t.getIor a = s.getIor a

/-- The parameters and the hidden state are the same. -/
abbrev State.SameHidden (s t : State) : Prop :=
  t.params = s.params ∧ t.diskTimer = s.diskTimer ∧ t.issuedThisCycle = s.issuedThisCycle ∧
    t.schedPtr = s.schedPtr ∧ t.cycle = s.cycle

/-- Everything but the general registers and the pc is the same, the observation streams among it. -/
abbrev State.SameRest (s t : State) : Prop :=
  s.SameMemories t ∧ s.SameIor t ∧ s.SameHidden t ∧ t.runState = s.runState ∧ t.obs = s.obs

/-- `pc` is `(pc + 1) mod 4096` (10_state.md R26). -/
abbrev State.Advances (s t : State) : Prop := t.pc.toNat = (s.pc.toNat + 1) % 4096

/-- `x[rd] <- v` by R10, and no other register: register 0 keeps its value if `ZERO_REG_HARDWIRED` is set. -/
abbrev State.RegWritten (s t : State) (rd : RegIdx) (v : Word) : Prop :=
  t.readReg rd = (if rd = 0 ∧ s.params.zeroRegHardwired = true then s.readReg rd else v) ∧
    ∀ r, r ≠ rd → t.readReg r = s.readReg r

/-- The whole effect of an instruction that writes `v` to `rd` and goes on: the register, the pc, nothing else. -/
abbrev State.WritesReg (s t : State) (rd : RegIdx) (v : Word) : Prop :=
  s.RegWritten t rd v ∧ s.Advances t ∧ s.SameRest t

/-- The whole effect of an instruction that only sets the pc. -/
abbrev State.OnlyPc (s t : State) (target : Nat) : Prop :=
  t.pc.toNat = target ∧ s.SameRegs t ∧ s.SameRest t

/-- The bank has `v` at address `a` and every other word unchanged. -/
abbrev State.IorWritten (s t : State) (a : IorIdx) (v : Word) : Prop :=
  ∀ b, t.getIor b = if b = a then v else s.getIor b

/-- The streams of `t` are those of `s` with one hardware-register trace event more (60_exceptions.md R272). -/
abbrev State.TracesHw (s t : State) (dir : TraceDir) (a : IorIdx) (v : Word) : Prop :=
  t.obs = { s.obs with hwRegTrace := s.obs.hwRegTrace ++ [⟨s.cycle, dir, a, v⟩] }

/-- The streams of `t` are those of `s` with one error report more (R224). -/
abbrev State.Reports (s t : State) (k : ErrorKind) (info : Word) : Prop :=
  t.obs = { s.obs with errors := s.obs.errors ++ [⟨s.cycle, k, s.pc, info⟩] }

/-- Nothing but the run state and the streams may differ. -/
abbrev State.SameMachine (s t : State) : Prop :=
  t.pc = s.pc ∧ s.SameRegs t ∧ s.SameMemories t ∧ s.SameIor t ∧ s.SameHidden t

/-- The whole effect of a load or store outside data memory (43_load_store.md R191, R194). -/
abbrev State.AddressFaults (s t : State) (ea : Word) : Prop :=
  s.SameMachine t ∧
    (s.params.faultPolicy = .hardFault → t.runState = .faulted (.memAddressFault s.pc ea) ∧ t.obs = s.obs) ∧
    (s.params.faultPolicy = .legacyStall → t.runState = s.runState ∧ s.Reports t .memAddressError ea)

/-- `i` is the instruction the next step of `s` runs. -/
abbrev State.Runs (s : State) (i : Instr) : Prop :=
  s.runState = .running ∧ decode s.params.opcodeMap s.fetch = .ok i

end Sys2Proof.Machine
end

