-- ==== Sys2Proof/Certificates/Slice0/Obligations.lean ====
section
/-!
DEFINITION. The statements for the provers. Each says which rule or which section of spec/ it formalises; OBLIGATIONS.json
lists them. Where a statement rests on a decision of the spec or a choice of the model, its docstring names it.
-/

open Sys2Proof Sys2Proof.Machine

/-! ## Encoding -/

/-- 30_encoding.md section 1 (the round trip of an instruction): under every opcode map whose numbers fit the 8-bit field, decoding
the word of a well-formed instruction gives the instruction back, with every operand at every value. -/
def Obligations.DecodeInvertsEncode : Prop :=
  ∀ m : OpcodeMap, m.length ≤ 256 → ∀ i : Instr, i.wf m = true → decode m (encode m i) = .ok i

/-- 92_eei_decisions.md D1: a bijective opcode map, the default one among them, numbers every operation. -/
def Obligations.BijectiveMapsNumberEveryInstruction : Prop :=
  defaultOpcodeMap.wf = true ∧ ∀ m : OpcodeMap, m.wf = true → ∀ i : Instr, i.wf m = true

/-- R97: re-encoding the decoded fields of any 48-bit word gives the word, its opcode assigned or not; re-encoding takes the low
12 bits of each sign-extended immediate. -/
def Obligations.EncodeInvertsDecode : Prop :=
  (∀ w : Slot, packFields (opcodeField w)
      { fieldsOf w with
        imm1 := (sext32 (fieldsOf w).imm1).extractLsb' 0 12
        imm2 := (sext32 (fieldsOf w).imm2).extractLsb' 0 12 } = w) ∧
    ∀ m : OpcodeMap, m.Nodup → ∀ (w : Slot) (i : Instr), decode m w = .ok i → encode m i = w

/-- R91: the seven fields stand at bits 47:40, 39:36, 35:32, 31:28, 27:24, 23:12 and 11:0. -/
def Obligations.FieldsStandAtTheirBits : Prop :=
  ∀ w : Slot,
    (opcodeField w).toNat = w.toNat / 2 ^ 40 ∧
    (fieldsOf w).rd.toNat = w.toNat / 2 ^ 36 % 16 ∧
    (fieldsOf w).rs.toNat = w.toNat / 2 ^ 32 % 16 ∧
    (fieldsOf w).rt.toNat = w.toNat / 2 ^ 28 % 16 ∧
    (fieldsOf w).rm.toNat = w.toNat / 2 ^ 24 % 16 ∧
    (fieldsOf w).imm1.toNat = w.toNat / 2 ^ 12 % 4096 ∧
    (fieldsOf w).imm2.toNat = w.toNat % 4096

/-- 30_encoding.md sections 1 to 3: under the default opcode map (numbers of the spec's general knowledge, D1; the policy for the
others D9) a word with an opcode of 0 to 21 decodes, with the fields it carries, and every other word is rejected by its opcode. -/
def Obligations.OpcodesAboveTwentyOneAreUnassigned : Prop :=
  ∀ w : Slot,
    ((opcodeField w).toNat ≤ 21 → ∃ i, decode defaultOpcodeMap w = .ok i ∧ i.fields = fieldsOf w ∧
      defaultOpcodeMap[(opcodeField w).toNat]? = some i.op) ∧
    (21 < (opcodeField w).toNat → decode defaultOpcodeMap w = .error (.unassignedOpcode (opcodeField w)))

/-- Words of 95_test_vectors.md section 2 and of the instruction files, at least one of each family, decode to the instructions
they stand for (default opcode map, D1). -/
def Obligations.WordsOfTheSpecDecode : Prop :=
  decode defaultOpcodeMap 0x003010005000 = .ok (.add 3 0 1 0 0x005 0x000) ∧
  decode defaultOpcodeMap 0x023441001000 = .ok (.mac 3 4 4 1 0x001 0x000) ∧
  decode defaultOpcodeMap 0x053410FFF000 = .ok (.xor 3 4 1 0 0xFFF 0x000) ∧
  decode defaultOpcodeMap 0x073410004000 = .ok (.sra 3 4 1 0 0x004 0x000) ∧
  decode defaultOpcodeMap 0x0A7F3C800801 = .ok (.bne 7 15 3 12 0x800 0x801) ∧
  decode defaultOpcodeMap 0x0FF001004000 = .ok (.jal 15 0 0 1 0x004 0x000) ∧
  decode defaultOpcodeMap 0x104010040000 = .ok (.lw 4 0 1 0 0x040 0x000) ∧
  decode defaultOpcodeMap 0x113012064005 = .ok (.sw 3 0 1 2 0x064 0x005) ∧
  decode defaultOpcodeMap 0x120010003000 = .ok (.reti 0 0 1 0 0x003 0x000) ∧
  decode defaultOpcodeMap 0x133010011000 = .ok (.ioIn 3 0 1 0 0x011 0x000) ∧
  decode defaultOpcodeMap 0x140012006008 = .ok (.ioOut 0 0 1 2 0x006 0x008) ∧
  decode defaultOpcodeMap 0x15ABCDEF0123 = .ok (.halt 10 11 12 13 0xEF0 0x123) ∧
  decode defaultOpcodeMap 0x950000000000 = .error (.unassignedOpcode 0x95)

/-! ## The cycle -/

/-- 40_cycle_engine.md section 1: when the slot at the pc decodes to `i`, the step runs `i` on the state phases P1 to P5 leave and
then phases P7 to P11 if that state is RUNNING (external source, disk, timer, interrupts, in this order, and the cycle counter);
in a state that HALTED or FAULTED nothing more runs. -/
def Obligations.StepRunsTheDecodedInstruction : Prop :=
  (∀ s i, s.Runs i →
    step s = match exec i s.prepared with
      | .next u => .next u.finish
      | .fault r => .fault r
      | .refused r => .refused r) ∧
  (∀ u : State, u.runState = .running →
    u.finish = { u.externalStep.diskStep.timerStep.interruptStep with cycle := u.cycle + 1 }) ∧
  (∀ u : State, u.runState ≠ .running → u.finish = u)

/-- 40_cycle_engine.md section 1, phases P1, P2, P4 and P5 (R121, R122, R124 for the writes): before the instruction executes, `clks`
holds the cycle number modulo 2^32, `irq2status` is 0, registers 1 and 2 hold the sign-extended immediates of the fetched word whatever
its opcode and whatever `ZERO_REG_HARDWIRED` says. That nothing else has changed but the instruction trace is read from the list of
phases (R120); that the transient mark of a DMA issue is off is the model's choice (log entry 12). -/
def Obligations.PhasesBeforeTheInstruction : Prop :=
  ∀ s : State,
    (s.prepared.readReg 1).toInt = (fieldsOf s.fetch).imm1.toInt ∧
    (s.prepared.readReg 2).toInt = (fieldsOf s.fetch).imm2.toInt ∧
    (∀ r, r ≠ 1 → r ≠ 2 → s.prepared.readReg r = s.readReg r) ∧
    (s.prepared.getIor Ior.clks).toNat = s.cycle % 2 ^ 32 ∧
    s.prepared.getIor Ior.irq2status = 0 ∧
    (∀ a, a ≠ Ior.clks → a ≠ Ior.irq2status → s.prepared.getIor a = s.getIor a) ∧
    s.prepared.pc = s.pc ∧ s.SameMemories s.prepared ∧ s.prepared.params = s.params ∧
    s.prepared.diskTimer = s.diskTimer ∧ s.prepared.schedPtr = s.schedPtr ∧ s.prepared.cycle = s.cycle ∧
    s.prepared.runState = s.runState ∧ s.prepared.issuedThisCycle = false ∧
    s.prepared.obs = { s.obs with instrTrace := s.prepared.obs.instrTrace }

/-- R125: every cycle, a halting, parked or faulting one too, appends one instruction-trace event with the pc, the raw word and the 16
registers as they are after the immediates are loaded and before the instruction executes. -/
def Obligations.EveryCycleTracesItsInstruction : Prop :=
  ∀ s t : State, s.runState = .running → step s = .next t →
    ∃ regs : Vector Word 16,
      t.obs.instrTrace = s.obs.instrTrace ++ [⟨s.pc, s.fetch, regs⟩] ∧
      ∀ r : RegIdx, regs[r.toNat] =
        if r = 1 then sext32 (fieldsOf s.fetch).imm1
        else if r = 2 then sext32 (fieldsOf s.fetch).imm2
        else s.readReg r

/-- 30_encoding.md section 3 and 60_exceptions.md section 1 (decisions D9, D10): a word whose opcode the map does not assign makes
the machine FAULTED with the pc and the word; registers 1 and 2 hold the immediates, `clks` the cycle number and `irq2status` 0, one
instruction-trace event is emitted, and nothing else changes: the pc stays, the cycle counter does not count, no device runs, the
other streams are as they were. The mark of a DMA issue is off (the model's choice, log entry 12). -/
def Obligations.UnassignedOpcodeFaults : Prop :=
  ∀ s : State, s.runState = .running → s.params.opcodeMap.length ≤ (opcodeField s.fetch).toNat →
    ∃ t, step s = .next t ∧ t.runState = .faulted (.illegalOpcode s.pc s.fetch) ∧
      t.pc = s.pc ∧ t.cycle = s.cycle ∧ t.schedPtr = s.schedPtr ∧ t.diskTimer = s.diskTimer ∧ t.params = s.params ∧
      t.issuedThisCycle = false ∧
      t.readReg 1 = sext32 (fieldsOf s.fetch).imm1 ∧ t.readReg 2 = sext32 (fieldsOf s.fetch).imm2 ∧
      (∀ r, r ≠ 1 → r ≠ 2 → t.readReg r = s.readReg r) ∧
      (t.getIor Ior.clks).toNat = s.cycle % 2 ^ 32 ∧ t.getIor Ior.irq2status = 0 ∧
      (∀ a, a ≠ Ior.clks → a ≠ Ior.irq2status → t.getIor a = s.getIor a) ∧ s.SameMemories t ∧
      ∃ regs : Vector Word 16, (∀ r : RegIdx, regs[r.toNat] = t.readReg r) ∧
        t.obs = { s.obs with instrTrace := s.obs.instrTrace ++ [⟨s.pc, s.fetch, regs⟩] }

/-- The model's choice (log entry 6) for "HALTED and FAULTED are terminal: no cycle starts in either" (10_state.md section 6): a step
of a HALTED machine changes nothing, a step of a FAULTED one is a fault that names the record. -/
def Obligations.NoCycleStartsInATerminalState : Prop :=
  (∀ s : State, s.runState = .halted → step s = .next s) ∧
    ∀ (s : State) (f : FaultRecord), s.runState = .faulted f → step s = .fault (.machineFaulted f)

/-- 40_cycle_engine.md sections 1 and 2: every cycle of a RUNNING machine completes; the cycle counter goes up by one in it, in the
halting cycle too, and stays only in a cycle that ends FAULTED (D10); a FAULTED end leaves the pc on the instruction. -/
def Obligations.EveryCycleCompletesAndCounts : Prop :=
  ∀ s : State, s.runState = .running →
    ∃ t, step s = .next t ∧ (t.NotFaulted → t.cycle = s.cycle + 1) ∧
      (¬ t.NotFaulted → t.cycle = s.cycle ∧ t.pc = s.pc)

/-! ## Operands -/

/-- 43_load_store.md section 1, 44_io_system.md section 1, 41_arith_logic.md section 4 (D6), 42_branch_jump.md section 1: data and I/O
addresses are sums modulo 2^32, shift amounts the low five bits, targets the low twelve. -/
def Obligations.OperandFormsAsNumbers : Prop :=
  ∀ (s : State) (a b : RegIdx),
    (s.effAddr a b).toNat = ((s.readReg a).toNat + (s.readReg b).toNat) % 2 ^ 32 ∧
    (s.ioAddr a b).toNat = ((s.readReg a).toNat + (s.readReg b).toNat) % 2 ^ 32 ∧
    s.shiftAmount a = (s.readReg a).toNat % 32 ∧
    (s.branchTarget a).toNat = (s.readReg a).toNat % 4096

/-! ## Arithmetic and logic -/

/-- R151: `x[rd] <- (x[rs] + x[rt] + x[rm]) mod 2^32`, the next pc, nothing else; every state, every register. -/
def Obligations.AddWritesTheSum : Prop :=
  ∀ (s : State) (rd rs rt rm : RegIdx) (i1 i2 : Imm), ∃ t, exec (.add rd rs rt rm i1 i2) s = .next t ∧
    s.WritesReg t rd (BitVec.ofNat 32 ((s.readReg rs).toNat + (s.readReg rt).toNat + (s.readReg rm).toNat))

/-- R152: `x[rd] <- (x[rs] - x[rt] - x[rm]) mod 2^32`, the next pc, nothing else. -/
def Obligations.SubWritesTheDifference : Prop :=
  ∀ (s : State) (rd rs rt rm : RegIdx) (i1 i2 : Imm), ∃ t, exec (.sub rd rs rt rm i1 i2) s = .next t ∧
    s.WritesReg t rd (BitVec.ofInt 32 (((s.readReg rs).toNat : Int) - (s.readReg rt).toNat - (s.readReg rm).toNat))

/-- 41_arith_logic.md section 2, `mac` (truncation: D4): the low 32 bits of `x[rs] * x[rt] + x[rm]`, and they are the same whether the
operands are read as unsigned or as signed numbers. -/
def Obligations.MacWritesTheLowProductSum : Prop :=
  ∀ (s : State) (rd rs rt rm : RegIdx) (i1 i2 : Imm),
    (∃ t, exec (.mac rd rs rt rm i1 i2) s = .next t ∧
      s.WritesReg t rd (BitVec.ofNat 32 ((s.readReg rs).toNat * (s.readReg rt).toNat + (s.readReg rm).toNat))) ∧
    BitVec.ofNat 32 ((s.readReg rs).toNat * (s.readReg rt).toNat + (s.readReg rm).toNat) =
      BitVec.ofInt 32 ((s.readReg rs).toInt * (s.readReg rt).toInt + (s.readReg rm).toInt)

/-- R154, R155, R156: the bitwise operations take all three registers part. -/
def Obligations.BitwiseWriteAllThree : Prop :=
  ∀ (s : State) (rd rs rt rm : RegIdx) (i1 i2 : Imm),
    (∃ t, exec (.and rd rs rt rm i1 i2) s = .next t ∧
      s.WritesReg t rd (s.readReg rs &&& s.readReg rt &&& s.readReg rm)) ∧
    (∃ t, exec (.or rd rs rt rm i1 i2) s = .next t ∧
      s.WritesReg t rd (s.readReg rs ||| s.readReg rt ||| s.readReg rm)) ∧
    (∃ t, exec (.xor rd rs rt rm i1 i2) s = .next t ∧
      s.WritesReg t rd (s.readReg rs ^^^ s.readReg rt ^^^ s.readReg rm))

/-- 41_arith_logic.md section 4 (the amount is the low five bits of `x[rt]`: D6): shift left is a product modulo 2^32, the logical right
shift an unsigned quotient, the arithmetic one a floored signed quotient; `rm` plays no part. -/
def Obligations.ShiftsMultiplyAndDivide : Prop :=
  ∀ (s : State) (rd rs rt rm : RegIdx) (i1 i2 : Imm),
    (∃ t, exec (.sll rd rs rt rm i1 i2) s = .next t ∧
      s.WritesReg t rd (BitVec.ofNat 32 ((s.readReg rs).toNat * 2 ^ ((s.readReg rt).toNat % 32)))) ∧
    (∃ t, exec (.sra rd rs rt rm i1 i2) s = .next t ∧
      s.WritesReg t rd (BitVec.ofInt 32 (Int.fdiv (s.readReg rs).toInt (2 ^ ((s.readReg rt).toNat % 32))))) ∧
    (∃ t, exec (.srl rd rs rt rm i1 i2) s = .next t ∧
      s.WritesReg t rd (BitVec.ofNat 32 ((s.readReg rs).toNat / 2 ^ ((s.readReg rt).toNat % 32))))

/-! ## Branches and jump -/

/-- R171: `beq` goes to `x[rm][11:0]` iff all 32 bits are equal, else to the next instruction; it changes the pc alone. -/
def Obligations.BeqSetsThePc : Prop :=
  ∀ (s : State) (rd rs rt rm : RegIdx) (i1 i2 : Imm), ∃ t, exec (.beq rd rs rt rm i1 i2) s = .next t ∧
    s.OnlyPc t (if s.readReg rs = s.readReg rt then (s.readReg rm).toNat % 4096 else (s.pc.toNat + 1) % 4096)

/-- R172: `bne` goes to `x[rm][11:0]` iff some bit differs, else to the next instruction; it changes the pc alone. -/
def Obligations.BneSetsThePc : Prop :=
  ∀ (s : State) (rd rs rt rm : RegIdx) (i1 i2 : Imm), ∃ t, exec (.bne rd rs rt rm i1 i2) s = .next t ∧
    s.OnlyPc t (if s.readReg rs = s.readReg rt then (s.pc.toNat + 1) % 4096 else (s.readReg rm).toNat % 4096)

/-- 42_branch_jump.md section 2, the four ordering branches (signed comparison: D32). -/
def Obligations.OrderingBranchesCompareSigned : Prop :=
  ∀ (s : State) (rd rs rt rm : RegIdx) (i1 i2 : Imm),
    (∃ t, exec (.blt rd rs rt rm i1 i2) s = .next t ∧
      s.OnlyPc t (if (s.readReg rs).toInt < (s.readReg rt).toInt then (s.readReg rm).toNat % 4096
        else (s.pc.toNat + 1) % 4096)) ∧
    (∃ t, exec (.bgt rd rs rt rm i1 i2) s = .next t ∧
      s.OnlyPc t (if (s.readReg rs).toInt > (s.readReg rt).toInt then (s.readReg rm).toNat % 4096
        else (s.pc.toNat + 1) % 4096)) ∧
    (∃ t, exec (.ble rd rs rt rm i1 i2) s = .next t ∧
      s.OnlyPc t (if (s.readReg rs).toInt ≤ (s.readReg rt).toInt then (s.readReg rm).toNat % 4096
        else (s.pc.toNat + 1) % 4096)) ∧
    (∃ t, exec (.bge rd rs rt rm i1 i2) s = .next t ∧
      s.OnlyPc t (if (s.readReg rs).toInt ≥ (s.readReg rt).toInt then (s.readReg rm).toNat % 4096
        else (s.pc.toNat + 1) % 4096))

/-- 42_branch_jump.md section 3 (the link value at pc 4095: D7; the write before the read: D31): `rd` takes the address of the next
instruction, and then the pc takes the low 12 bits of `x[rm]`, which is the link value where `rd = rm` was written. -/
def Obligations.JalLinksThenJumps : Prop :=
  ∀ (s : State) (rd rs rt rm : RegIdx) (i1 i2 : Imm), ∃ t, exec (.jal rd rs rt rm i1 i2) s = .next t ∧
    s.RegWritten t rd (BitVec.ofNat 32 ((s.pc.toNat + 1) % 4096)) ∧ s.SameRest t ∧
    t.pc.toNat =
      if rm = rd ∧ ¬ (rd = 0 ∧ s.params.zeroRegHardwired = true) then (s.pc.toNat + 1) % 4096
      else (s.readReg rm).toNat % 4096

/-! ## Loads and stores -/

/-- 43_load_store.md sections 1 to 3: inside data memory `lw` writes the word at the effective address plus `x[rm]` (R192). Outside it
the range check (R191, D11, log entry 17) makes the machine FAULTED or reports an error (R194, R222, D10, log entry 6), and the
instruction does nothing else. -/
def Obligations.LwLoadsTheWordPlusRm : Prop :=
  ∀ (s : State) (rd rs rt rm : RegIdx) (i1 i2 : Imm),
    ((s.effAddr rs rt).toNat < 4096 → ∃ t, exec (.lw rd rs rt rm i1 i2) s = .next t ∧
      s.WritesReg t rd
        (BitVec.ofNat 32 ((s.readDmem (s.effAddr rs rt).toNat).toNat + (s.readReg rm).toNat))) ∧
    (4096 ≤ (s.effAddr rs rt).toNat → ∃ t, exec (.lw rd rs rt rm i1 i2) s = .next t ∧
      s.AddressFaults t (s.effAddr rs rt))

/-- 43_load_store.md sections 1 to 3: inside data memory `sw` writes `x[rd] + x[rm]` to the word at the effective address, no other
word, no register (R193). Outside it the range check (R191, D11, log entry 17) makes the machine FAULTED or reports an error (R194,
R222, D10, log entry 6), and the instruction does nothing else. -/
def Obligations.SwStoresTheSum : Prop :=
  ∀ (s : State) (rd rs rt rm : RegIdx) (i1 i2 : Imm),
    ((s.effAddr rs rt).toNat < 4096 → ∃ t, exec (.sw rd rs rt rm i1 i2) s = .next t ∧
      t.readDmem (s.effAddr rs rt).toNat = BitVec.ofNat 32 ((s.readReg rd).toNat + (s.readReg rm).toNat) ∧
      (∀ a, a ≠ (s.effAddr rs rt).toNat → t.readDmem a = s.readDmem a) ∧
      (∀ a, t.imem.read a = s.imem.read a) ∧ (∀ a, t.disk.read a = s.disk.read a) ∧ (∀ k, t.readFb k = s.readFb k) ∧
      s.SameRegs t ∧ s.Advances t ∧ s.SameIor t ∧ s.SameHidden t ∧ t.runState = s.runState ∧ t.obs = s.obs) ∧
    (4096 ≤ (s.effAddr rs rt).toNat → ∃ t, exec (.sw rd rs rt rm i1 i2) s = .next t ∧
      s.AddressFaults t (s.effAddr rs rt))

/-- 20_memory.md section 3 (every load returns the value of the most recent write): a `lw` right after a `sw` through the same
address registers delivers the stored sum plus its own third operand. -/
def Obligations.LoadSeesTheStoreBeforeIt : Prop :=
  ∀ (s : State) (rd rs rt rm rd' rm' : RegIdx) (i1 i2 j1 j2 : Imm), (s.effAddr rs rt).toNat < 4096 →
    ∃ t u, exec (.sw rd rs rt rm i1 i2) s = .next t ∧ exec (.lw rd' rs rt rm' j1 j2) t = .next u ∧
      s.RegWritten u rd'
        (BitVec.ofNat 32 ((s.readReg rd).toNat + (s.readReg rm).toNat + (s.readReg rm').toNat))

/-! ## I/O, return from interrupt, halt -/

/-- R225: an I/O address above 22 makes `in`, `out` and `reti` a no-operation that reports the address and advances the pc. -/
def Obligations.IoAddressAboveTwentyTwoIsANop : Prop :=
  ∀ (s : State) (rd rs rt rm : RegIdx) (i1 i2 : Imm), 22 < (s.ioAddr rs rt).toNat →
    ∀ i ∈ [Instr.ioIn rd rs rt rm i1 i2, Instr.ioOut rd rs rt rm i1 i2, Instr.reti rd rs rt rm i1 i2],
      ∃ t, exec i s = .next t ∧ s.Advances t ∧ s.Reports t .ioAddressError (s.ioAddr rs rt) ∧
        s.SameRegs t ∧ s.SameMemories t ∧ s.SameIor t ∧ s.SameHidden t ∧ t.runState = s.runState

/-- 44_io_system.md section 2, `in` (D14: the value before the clear): `rd` takes the whole word, only a read of `monitorcmd` changes
the bank, one READ event is traced. -/
def Obligations.InReadsTheWord : Prop :=
  ∀ (s : State) (rd rs rt rm : RegIdx) (i1 i2 : Imm) (a : IorIdx), (s.ioAddr rs rt).toNat = a.val →
    ∃ t, exec (.ioIn rd rs rt rm i1 i2) s = .next t ∧ s.RegWritten t rd (s.getIor a) ∧ s.Advances t ∧
      (∀ b, t.getIor b = if b = Ior.monitorcmd ∧ a = Ior.monitorcmd then 0 else s.getIor b) ∧
      s.SameMemories t ∧ s.SameHidden t ∧ t.runState = s.runState ∧ s.TracesHw t .read a (s.getIor a)

/-- 44_io_system.md section 2 and 60_exceptions.md section 4, `out` to a word without a side effect: the word takes all 32 bits, also
where the hardware writes it, and one WRITE event is traced. -/
def Obligations.OutStoresPlainWords : Prop :=
  ∀ (s : State) (rd rs rt rm : RegIdx) (i1 i2 : Imm) (a : IorIdx), (s.ioAddr rs rt).toNat = a.val →
    a ≠ Ior.leds → a ≠ Ior.display7seg → a ≠ Ior.diskcmd → a ≠ Ior.monitorcmd →
    ∃ t, exec (.ioOut rd rs rt rm i1 i2) s = .next t ∧ s.IorWritten t a (s.readReg rm) ∧ s.Advances t ∧
      s.SameRegs t ∧ s.SameMemories t ∧ s.SameHidden t ∧ t.runState = s.runState ∧
      s.TracesHw t .write a (s.readReg rm)

/-- 60_exceptions.md section 4, `out` to `leds` and `display7seg` (an event for every write: D30). -/
def Obligations.OutLatchesAndLogs : Prop :=
  ∀ (s : State) (rd rs rt rm : RegIdx) (i1 i2 : Imm) (a : IorIdx), (s.ioAddr rs rt).toNat = a.val →
    (a = Ior.leds ∨ a = Ior.display7seg) →
    ∃ t, exec (.ioOut rd rs rt rm i1 i2) s = .next t ∧ s.IorWritten t a (s.readReg rm) ∧ s.Advances t ∧
      s.SameRegs t ∧ s.SameMemories t ∧ s.SameHidden t ∧ t.runState = s.runState ∧
      t.obs = { s.obs with
        hwRegTrace := s.obs.hwRegTrace ++ [⟨s.cycle, .write, a, s.readReg rm⟩]
        ledLog := s.obs.ledLog ++ (if a = Ior.leds then [⟨s.cycle, s.readReg rm⟩] else [])
        segLog := s.obs.segLog ++ (if a = Ior.display7seg then [⟨s.cycle, s.readReg rm⟩] else []) }

/-- 60_exceptions.md sections 4 and 7, `out` to `monitorcmd` (D27: the place is the low 16 bits of `monitoraddr`; D28: only the value 1
commits, and the word keeps it). -/
def Obligations.OutOfOneCommitsThePixel : Prop :=
  ∀ (s : State) (rd rs rt rm : RegIdx) (i1 i2 : Imm), (s.ioAddr rs rt).toNat = 22 →
    ∃ t, exec (.ioOut rd rs rt rm i1 i2) s = .next t ∧ s.IorWritten t Ior.monitorcmd (s.readReg rm) ∧ s.Advances t ∧
      (∀ k, t.readFb k =
        if s.readReg rm = 1 ∧ k = (s.getIor Ior.monitoraddr).toNat % 65536
        then BitVec.ofNat 8 (s.getIor Ior.monitordata).toNat else s.readFb k) ∧
      s.SameRegs t ∧ (∀ a, t.imem.read a = s.imem.read a) ∧ (∀ a, t.readDmem a = s.readDmem a) ∧
      (∀ a, t.disk.read a = s.disk.read a) ∧ s.SameHidden t ∧ t.runState = s.runState ∧
      s.TracesHw t .write Ior.monitorcmd (s.readReg rm)

/-- 60_exceptions.md section 6, a disk command that launches nothing (D16, and the disk busy): the word is stored and that is all. -/
def Obligations.DiskCommandWithoutLaunchIsStored : Prop :=
  ∀ (s : State) (rd rs rt rm : RegIdx) (i1 i2 : Imm), (s.ioAddr rs rt).toNat = 14 →
    (s.getIor Ior.diskstatus ≠ 0 ∨ (s.readReg rm ≠ 1 ∧ s.readReg rm ≠ 2)) →
    ∃ t, exec (.ioOut rd rs rt rm i1 i2) s = .next t ∧ s.IorWritten t Ior.diskcmd (s.readReg rm) ∧ s.Advances t ∧
      s.SameRegs t ∧ s.SameMemories t ∧ s.SameHidden t ∧ t.runState = s.runState ∧
      s.TracesHw t .write Ior.diskcmd (s.readReg rm)

/-- 60_exceptions.md section 6, a disk command that launches (codes 1 and 2: D16; the copy in the issuing cycle: D17): 128 words from
the sector to the buffer for 1, from the buffer to the sector for 2, the disk busy, the countdown at 1024. -/
def Obligations.DiskCommandCopiesTheSector : Prop :=
  ∀ (s : State) (rd rs rt rm : RegIdx) (i1 i2 : Imm), (s.ioAddr rs rt).toNat = 14 →
    s.getIor Ior.diskstatus = 0 → (s.readReg rm = 1 ∨ s.readReg rm = 2) →
    (s.getIor Ior.disksector).toNat ≤ 127 → (s.getIor Ior.diskbuffer).toNat ≤ 3968 →
    ∃ t, exec (.ioOut rd rs rt rm i1 i2) s = .next t ∧ s.Advances t ∧ s.SameRegs t ∧
      (∀ b, t.getIor b = if b = Ior.diskcmd then s.readReg rm else if b = Ior.diskstatus then 1 else s.getIor b) ∧
      t.diskTimer = 1024 ∧ t.issuedThisCycle = true ∧
      (∀ a, t.readDmem a =
        if s.readReg rm = 1 ∧ (s.getIor Ior.diskbuffer).toNat ≤ a ∧ a < (s.getIor Ior.diskbuffer).toNat + 128
        then s.readDisk (s.getIor Ior.disksector).toNat (a - (s.getIor Ior.diskbuffer).toNat) else s.readDmem a) ∧
      (∀ k < 128, ∀ n < 128, t.readDisk n k =
        if s.readReg rm = 2 ∧ n = (s.getIor Ior.disksector).toNat
        then s.readDmem ((s.getIor Ior.diskbuffer).toNat + k) else s.readDisk n k) ∧
      (∀ a, t.imem.read a = s.imem.read a) ∧ (∀ k, t.readFb k = s.readFb k) ∧
      t.params = s.params ∧ t.schedPtr = s.schedPtr ∧ t.cycle = s.cycle ∧ t.runState = s.runState ∧
      s.TracesHw t .write Ior.diskcmd (s.readReg rm)

/-- 60_exceptions.md section 1, `DmaRangeFault` (D17): before any word is copied the machine is FAULTED; the store into `diskcmd` and its
trace event have happened, the pc stays. -/
def Obligations.DiskCommandOutOfRangeFaults : Prop :=
  ∀ (s : State) (rd rs rt rm : RegIdx) (i1 i2 : Imm), (s.ioAddr rs rt).toNat = 14 →
    s.getIor Ior.diskstatus = 0 → (s.readReg rm = 1 ∨ s.readReg rm = 2) →
    (127 < (s.getIor Ior.disksector).toNat ∨ 3968 < (s.getIor Ior.diskbuffer).toNat) →
    ∃ t, exec (.ioOut rd rs rt rm i1 i2) s = .next t ∧
      t.runState = .faulted (.dmaRangeFault s.pc (s.getIor Ior.disksector) (s.getIor Ior.diskbuffer)) ∧ t.pc = s.pc ∧
      s.IorWritten t Ior.diskcmd (s.readReg rm) ∧ s.SameRegs t ∧ s.SameMemories t ∧ s.SameHidden t ∧
      s.TracesHw t .write Ior.diskcmd (s.readReg rm)

/-- 44_io_system.md section 2, `reti` (subject to the I/O range check: D15; the low 12 bits: D21): the pc comes from `irqreturn`, nothing
else changes but one trace event for an I/O address of 1 to 22, whose direction and value are free (log entry 10). -/
def Obligations.RetiRestoresThePc : Prop :=
  ∀ (s : State) (rd rs rt rm : RegIdx) (i1 i2 : Imm) (a : IorIdx), (s.ioAddr rs rt).toNat = a.val →
    ∃ t, exec (.reti rd rs rt rm i1 i2) s = .next t ∧ t.pc.toNat = (s.getIor Ior.irqreturn).toNat % 4096 ∧
      s.SameRegs t ∧ s.SameMemories t ∧ s.SameIor t ∧ s.SameHidden t ∧ t.runState = s.runState ∧
      (a = 0 → t.obs = s.obs) ∧ (a ≠ 0 → ∃ dir v, s.TracesHw t dir a v)

/-- 44_io_system.md section 2, `halt` (D22): with the disk timer at 0 the machine is HALTED, the cycle counter one further and the rest as
it was; otherwise the instruction changes nothing (parked). -/
def Obligations.HaltHaltsOrParks : Prop :=
  ∀ (s : State) (rd rs rt rm : RegIdx) (i1 i2 : Imm),
    (s.diskTimer = 0 → exec (.halt rd rs rt rm i1 i2) s = .next { s with runState := .halted, cycle := s.cycle + 1 }) ∧
    (s.diskTimer ≠ 0 → exec (.halt rd rs rt rm i1 i2) s = .next s)

/-! ## Interrupts and devices -/

/-- R233: with the line raised and the guard off, the controller saves the pc, loads the handler address and clears each contributing
status word; nothing else is saved or changed. -/
def Obligations.InterruptEntrySavesAndClears : Prop :=
  ∀ s : State,
    ((s.getIor 0 &&& s.getIor 3) ||| (s.getIor 1 &&& s.getIor 4) ||| (s.getIor 2 &&& s.getIor 5)) ≠ 0 →
    s.pc.toNat ≠ (s.getIor 6).toNat % 4096 →
    (s.interruptStep.getIor 7).toNat = s.pc.toNat ∧
    s.interruptStep.pc.toNat = (s.getIor 6).toNat % 4096 ∧
    s.interruptStep.getIor 3 = (if s.getIor 0 &&& s.getIor 3 = 0 then s.getIor 3 else 0) ∧
    s.interruptStep.getIor 4 = (if s.getIor 1 &&& s.getIor 4 = 0 then s.getIor 4 else 0) ∧
    s.interruptStep.getIor 5 = (if s.getIor 2 &&& s.getIor 5 = 0 then s.getIor 5 else 0) ∧
    (∀ a, a ≠ 3 → a ≠ 4 → a ≠ 5 → a ≠ 7 → s.interruptStep.getIor a = s.getIor a) ∧
    s.SameRegs s.interruptStep ∧ s.SameMemories s.interruptStep ∧ s.SameHidden s.interruptStep ∧
    s.interruptStep.runState = s.runState ∧ s.interruptStep.obs = s.obs

/-- 60_exceptions.md section 2 (bitwise line: D20; the guard is the comparison alone, 90_conflicts.md C1): with every AND of an enable
and its status word 0, or with the pc at the handler address, phase P10 changes nothing. -/
def Obligations.NoInterruptWhenMaskedOrGuarded : Prop :=
  ∀ s : State,
    ((s.getIor 0 &&& s.getIor 3 = 0 ∧ s.getIor 1 &&& s.getIor 4 = 0 ∧ s.getIor 2 &&& s.getIor 5 = 0) ∨
      s.pc.toNat = (s.getIor 6).toNat % 4096) →
    s.interruptStep = s

/-- 60_exceptions.md section 2, the guard: a second evaluation right after the first never enters again, whatever is raised. -/
def Obligations.InterruptStepIsIdempotent : Prop :=
  ∀ s : State, s.interruptStep.interruptStep = s.interruptStep

/-- 60_exceptions.md section 2 (trap entry and return): a `reti` with a valid I/O address in the state an entry leaves goes back to the
interrupted pc and leaves every register as it was. -/
def Obligations.RetiUndoesTheEntry : Prop :=
  ∀ (s : State) (rd rs rt rm : RegIdx) (i1 i2 : Imm), (s.ioAddr rs rt).toNat ≤ 22 →
    ∃ t, exec (.reti rd rs rt rm i1 i2) s.takeInterrupt = .next t ∧ t.pc = s.pc ∧ s.SameRegs t

/-- 40_cycle_engine.md section 1, phase P7 (the pointer rule: D29): in the cycle the next entry names, the pulse and the pointer, and
nothing else of the state; in another cycle nothing. -/
def Obligations.ExternalSourcePulsesOnSchedule : Prop :=
  ∀ s : State,
    (s.params.irq2Schedule[s.schedPtr]? = some s.cycle →
      s.externalStep.getIor Ior.irq2status = 1 ∧ s.externalStep.schedPtr = s.schedPtr + 1 ∧
      (∀ a, a ≠ Ior.irq2status → s.externalStep.getIor a = s.getIor a) ∧ s.externalStep.pc = s.pc ∧
      s.SameRegs s.externalStep ∧ s.SameMemories s.externalStep ∧ s.externalStep.params = s.params ∧
      s.externalStep.diskTimer = s.diskTimer ∧ s.externalStep.issuedThisCycle = s.issuedThisCycle ∧
      s.externalStep.cycle = s.cycle ∧ s.externalStep.runState = s.runState ∧ s.externalStep.obs = s.obs) ∧
    (s.params.irq2Schedule[s.schedPtr]? ≠ some s.cycle → s.externalStep = s)

/-- 60_exceptions.md section 5 (D19): with the timer enabled, its counter at 0 and its maximum `N` not 0, `k` timer steps leave the counter
at `k mod N`, have set `irq0status` once `k` reached `N`, and have changed nothing else; unless the enable word equals 1 they change
nothing at all. -/
def Obligations.TimerWrapsEveryNSteps : Prop :=
  (∀ (s : State) (k : Nat), s.getIor Ior.timerenable ≠ 1 → State.timerStep^[k] s = s) ∧
  ∀ (s : State) (k : Nat), s.getIor Ior.timerenable = 1 → s.getIor Ior.timercurrent = 0 → s.getIor Ior.timermax ≠ 0 →
    ((State.timerStep^[k] s).getIor Ior.timercurrent).toNat = k % (s.getIor Ior.timermax).toNat ∧
    (State.timerStep^[k] s).getIor Ior.irq0status =
      (if (s.getIor Ior.timermax).toNat ≤ k then 1 else s.getIor Ior.irq0status) ∧
    (∀ a, a ≠ Ior.timercurrent → a ≠ Ior.irq0status → (State.timerStep^[k] s).getIor a = s.getIor a) ∧
    (State.timerStep^[k] s).pc = s.pc ∧ s.SameRegs (State.timerStep^[k] s) ∧ s.SameMemories (State.timerStep^[k] s) ∧
    s.SameHidden (State.timerStep^[k] s) ∧ (State.timerStep^[k] s).runState = s.runState ∧
    (State.timerStep^[k] s).obs = s.obs

/-- 60_exceptions.md section 5, R250 (the enable test and the order of increment and comparison: D19), for every counter and every
maximum, 0 and a counter at or above its maximum too: the counter goes up by one modulo 2^32; where that is the maximum the status word
is set and the counter is 0 instead; unless the enable word equals 1 nothing changes; nothing else ever changes. -/
def Obligations.TimerStepCountsOrFires : Prop :=
  ∀ s : State,
    (s.getIor Ior.timerenable = 1 →
      ((s.getIor Ior.timercurrent).toNat + 1) % 2 ^ 32 = (s.getIor Ior.timermax).toNat →
      s.timerStep.getIor Ior.timercurrent = 0 ∧ s.timerStep.getIor Ior.irq0status = 1) ∧
    (s.getIor Ior.timerenable = 1 →
      ((s.getIor Ior.timercurrent).toNat + 1) % 2 ^ 32 ≠ (s.getIor Ior.timermax).toNat →
      (s.timerStep.getIor Ior.timercurrent).toNat = ((s.getIor Ior.timercurrent).toNat + 1) % 2 ^ 32 ∧
      s.timerStep.getIor Ior.irq0status = s.getIor Ior.irq0status) ∧
    (s.getIor Ior.timerenable ≠ 1 → s.timerStep = s) ∧
    (∀ a, a ≠ Ior.timercurrent → a ≠ Ior.irq0status → s.timerStep.getIor a = s.getIor a) ∧
    s.timerStep.pc = s.pc ∧ s.SameRegs s.timerStep ∧ s.SameMemories s.timerStep ∧ s.SameHidden s.timerStep ∧
    s.timerStep.runState = s.runState ∧ s.timerStep.obs = s.obs

/-- 60_exceptions.md section 6, the countdown: `k` disk steps of a command with `n` cycles to go leave `n - k`, and the words of the bank
change only at the last: the disk idle, the command cleared, the completion status set; the disk step of the cycle that issued a command
counts only under `DISK_COUNTDOWN_IN_ISSUE_CYCLE` (D18, 90_conflicts.md C2). -/
def Obligations.DiskCompletesWhenTheCountEnds : Prop :=
  (∀ s : State, s.issuedThisCycle = true → 1 < s.diskTimer →
    s.diskStep.diskTimer = (if s.params.diskCountdownInIssueCycle = true then s.diskTimer - 1 else s.diskTimer) ∧
    s.diskStep.issuedThisCycle = false ∧ s.SameIor s.diskStep) ∧
  ∀ (s : State) (k : Nat), s.issuedThisCycle = false → s.diskTimer ≠ 0 →
    (State.diskStep^[k] s).diskTimer = s.diskTimer - k ∧
    (k < s.diskTimer → s.SameIor (State.diskStep^[k] s)) ∧
    (s.diskTimer ≤ k → ∀ a, (State.diskStep^[k] s).getIor a =
      if a = Ior.irq1status then 1 else if a = Ior.diskstatus ∨ a = Ior.diskcmd then 0 else s.getIor a) ∧
    (State.diskStep^[k] s).pc = s.pc ∧ s.SameRegs (State.diskStep^[k] s) ∧ s.SameMemories (State.diskStep^[k] s)

/-- 95_test_vectors.md S4 (D17 for the instant of the copy): a write command followed, in any later state with the same disk, by a read
command of the same sector brings the 128 words back, wherever the second buffer lies. -/
def Obligations.SectorWriteThenReadRoundTrips : Prop :=
  ∀ s : State, s.getIor Ior.diskstatus = 0 → (s.getIor Ior.disksector).toNat ≤ 127 →
    (s.getIor Ior.diskbuffer).toNat ≤ 3968 →
    ∃ t, s.dmaIssue 2 = .completed t ∧
      ∀ u : State, u.disk = t.disk → u.getIor Ior.diskstatus = 0 → u.getIor Ior.disksector = s.getIor Ior.disksector →
        (u.getIor Ior.diskbuffer).toNat ≤ 3968 →
        ∃ v, u.dmaIssue 1 = .completed v ∧
          ∀ i < 128, v.readDmem ((u.getIor Ior.diskbuffer).toNat + i) = s.readDmem ((s.getIor Ior.diskbuffer).toNat + i)

/-! ## Reset -/

/-- R291: after every boot the registers, the I/O words, the pc and the hidden counters are 0, the framebuffer is 0, the machine is RUNNING
and the three memories hold their images, 0 where an image has no entry. -/
def Obligations.BootGivesEveryStateItsResetValue : Prop :=
  ∀ (p : Params) (im : Images) (s : State), State.boot p im = .ok s →
    (∀ r, s.readReg r = 0) ∧ (∀ a, s.getIor a = 0) ∧ s.pc = 0 ∧ s.diskTimer = 0 ∧ s.schedPtr = 0 ∧ s.cycle = 0 ∧
    (∀ k, s.readFb k = 0) ∧ s.runState = .running ∧ s.params = p ∧
    (∀ a, s.imem.read a = im.imem.getD a 0) ∧ (∀ a, s.readDmem a = im.dmem.getD a 0) ∧
    (∀ n i, i < 128 → s.readDisk n i = im.disk.getD (n * 128 + i) 0)

/-! ## Invariants of every step -/

/-- The reset state meets the invariants: 10_state.md section 7 for the values of the spec, the canonical form of a memory being the
model's (log entry 7), and the reset value `false` of the DMA mark being the model's choice (log entry 12, DESIGN CHOICE). -/
def Obligations.InvariantHoldsAtReset : Prop :=
  State.reset.Inv ∧ State.reset.ScheduleInv

/-- Every boot meets the invariants: 10_state.md section 6, 20_memory.md section 1, and 00_scope.md section 3 for register 0; the
canonical form of a memory is the model's (log entry 7), and the value `false` of the DMA mark after a boot is the model's choice (log
entry 12, DESIGN CHOICE). -/
def Obligations.InvariantHoldsAtBoot : Prop :=
  ∀ (p : Params) (im : Images) (s : State), State.boot p im = .ok s → s.Inv ∧ s.ScheduleInv

/-- Every step keeps the invariant: the memories in canonical form and inside their spaces, the disk timer at most 1024, the schedule
pointer inside the schedule, a hardwired register 0 at 0, no DMA mark between cycles. -/
def Obligations.StepKeepsTheInvariant : Prop :=
  ∀ s t : State, s.Inv → step s = .next t → t.Inv

/-- 40_cycle_engine.md section 1, the schedule: with a strictly ascending schedule every step keeps "the consumed entries are the cycles
before this one, the others are not", so that every entry is met exactly once while the machine is RUNNING. -/
def Obligations.StepConsumesTheScheduleInOrder : Prop :=
  ∀ s t : State, scheduleWf s.params.irq2Schedule = true → s.ScheduleInv → step s = .next t → t.ScheduleInv

/-- 10_state.md section 4 and 20_memory.md section 3: no step writes instruction memory or a parameter. -/
def Obligations.StepKeepsProgramAndParameters : Prop :=
  ∀ s t : State, step s = .next t → t.imem = s.imem ∧ t.params = s.params

/-! ## Whole-machine rules -/

/-- 10_state.md section 1 and 70_reset_and_hazards.md section 3: a step changes a register other than 1 and 2 only by an arithmetic or logic
instruction, `jal`, `lw` or `in` that names it as `rd`; devices and interrupts change none. -/
def Obligations.RegistersChangeOnlyThroughRd : Prop :=
  ∀ (s t : State) (r : RegIdx), step s = .next t → r ≠ 1 → r ≠ 2 → t.readReg r ≠ s.readReg r →
    ∃ i, s.Runs i ∧ i.fields.rd = r ∧
      i.op ∈ [Op.add, .sub, .mac, .and, .or, .xor, .sll, .sra, .srl, .jal, .lw, .ioIn]

/-- 10_state.md section 4: data memory changes only by a `sw` to that word or by a DMA read command into a window that holds it. -/
def Obligations.DataMemoryChangesOnlyBySwOrDma : Prop :=
  ∀ (s t : State) (a : Nat), step s = .next t → t.readDmem a ≠ s.readDmem a →
    ∃ i, s.Runs i ∧
      ((i.op = .sw ∧ (s.prepared.effAddr i.fields.rs i.fields.rt).toNat = a ∧ a < 4096) ∨
       (i.op = .ioOut ∧ (s.prepared.ioAddr i.fields.rs i.fields.rt).toNat = 14 ∧ s.prepared.readReg i.fields.rm = 1 ∧
        s.getIor Ior.diskstatus = 0 ∧ (s.getIor Ior.diskbuffer).toNat ≤ a ∧ a < (s.getIor Ior.diskbuffer).toNat + 128))

/-- 10_state.md section 6 ("mutated only via DMA transfer"): the disk changes only by a DMA write command to the sector. -/
def Obligations.DiskChangesOnlyByDmaWrite : Prop :=
  ∀ (s t : State) (k : Nat), step s = .next t → t.disk.read k ≠ s.disk.read k →
    ∃ i, s.Runs i ∧ i.op = .ioOut ∧ (s.prepared.ioAddr i.fields.rs i.fields.rt).toNat = 14 ∧
      s.prepared.readReg i.fields.rm = 2 ∧ s.getIor Ior.diskstatus = 0 ∧ k / 128 = (s.getIor Ior.disksector).toNat

/-- 10_state.md section 6 ("mutated only by a committed monitor write"): the framebuffer changes only by an `out` of 1 to `monitorcmd`, at the
place `monitoraddr` names, to the low byte of `monitordata`. -/
def Obligations.FramebufferChangesOnlyByCommit : Prop :=
  ∀ (s t : State) (k : Nat), step s = .next t → t.readFb k ≠ s.readFb k →
    (∃ i, s.Runs i ∧ i.op = .ioOut ∧ (s.prepared.ioAddr i.fields.rs i.fields.rt).toNat = 22 ∧
      s.prepared.readReg i.fields.rm = 1) ∧
    k = (s.getIor Ior.monitoraddr).toNat % 65536 ∧ t.readFb k = BitVec.ofNat 8 (s.getIor Ior.monitordata).toNat

/-- 40_cycle_engine.md sections 1 and 2 (D22): a RUNNING machine becomes HALTED only by a `halt` with the disk timer at 0, which leaves the pc
on it and runs no device: the bank is as the instruction found it. -/
def Obligations.OnlyHaltHalts : Prop :=
  ∀ s t : State, s.runState = .running → step s = .next t → t.runState = .halted →
    (∃ i, s.Runs i ∧ i.op = .halt) ∧ s.diskTimer = 0 ∧ t.pc = s.pc ∧ t.cycle = s.cycle + 1 ∧
      s.prepared.SameIor t ∧ t.schedPtr = s.schedPtr

/-- 60_exceptions.md section 1 (D9, D10, D17): what can make a RUNNING machine FAULTED, and the record it leaves. -/
def Obligations.OnlyThreeCausesFault : Prop :=
  ∀ (s t : State) (f : FaultRecord), s.runState = .running → step s = .next t → t.runState = .faulted f →
    (f = .illegalOpcode s.pc s.fetch ∧ ∀ i, decode s.params.opcodeMap s.fetch ≠ .ok i) ∨
    (∃ i, s.Runs i ∧ (i.op = .lw ∨ i.op = .sw) ∧ s.params.faultPolicy = .hardFault ∧
      f = .memAddressFault s.pc (s.prepared.effAddr i.fields.rs i.fields.rt) ∧
      4096 ≤ (s.prepared.effAddr i.fields.rs i.fields.rt).toNat) ∨
    (∃ i, s.Runs i ∧ i.op = .ioOut ∧ (s.prepared.ioAddr i.fields.rs i.fields.rt).toNat = 14 ∧
      f = .dmaRangeFault s.pc (s.getIor Ior.disksector) (s.getIor Ior.diskbuffer) ∧
      (127 < (s.getIor Ior.disksector).toNat ∨ 3968 < (s.getIor Ior.diskbuffer).toNat))

/-- 10_state.md sections 1 and 5, 40_cycle_engine.md section 1 (derived from the order of the phases): what a program left in register 1 or
2, in `clks` or in `irq2status` is lost, for the next cycle of a RUNNING machine is the same without it. -/
def Obligations.ReloadedStateIsNeverObserved : Prop :=
  ∀ (s : State) (v : Word), s.runState = .running →
    step (s.writeReg 1 v) = step s ∧ step (s.writeReg 2 v) = step s ∧
    step (s.setIor Ior.clks v) = step s ∧ step (s.setIor Ior.irq2status v) = step s

/-- 60_exceptions.md section 9: no rule reads the observation streams, so a machine with other streams takes the same steps. -/
def Obligations.StreamsAreNeverRead : Prop :=
  ∀ (s t : State) (o : Observations), step s = .next t →
    ∃ o', step { s with obs := o } = .next { t with obs := o' }

/-- 60_exceptions.md section 9: the streams are append-only; and section 1: a monitor range error is never reported. -/
def Obligations.StreamsOnlyGrow : Prop :=
  ∀ s t : State, step s = .next t →
    s.obs.instrTrace <+: t.obs.instrTrace ∧ s.obs.hwRegTrace <+: t.obs.hwRegTrace ∧
    s.obs.ledLog <+: t.obs.ledLog ∧ s.obs.segLog <+: t.obs.segLog ∧ s.obs.errors <+: t.obs.errors ∧
    ∀ e ∈ t.obs.errors, e.kind = .monitorRangeError → e ∈ s.obs.errors

/-- 44_io_system.md section 2 and 60_exceptions.md section 6 (D22): with the three enable words 0, a machine on a `halt` with `n` cycles of disk
countdown left stays parked for exactly `n` cycles, then halts: its pc unmoved, `n + 1` cycles counted, and if there was a countdown, the
completion made (the disk idle, the command cleared, `irq1status` set). -/
def Obligations.ParkedHaltEndsWithTheCountdown : Prop :=
  ∀ (s : State) (i : Instr), s.Runs i → i.op = .halt →
    s.getIor Ior.irq0enable = 0 → s.getIor Ior.irq1enable = 0 → s.getIor Ior.irq2enable = 0 →
    (∀ k ≤ s.diskTimer, ∃ t : State, Host.Core.run Sys2Proof.core k s = .next t ∧ t.runState = .running ∧
      t.pc = s.pc ∧ t.diskTimer = s.diskTimer - k ∧ t.cycle = s.cycle + k) ∧
    ∃ t : State, Host.Core.run Sys2Proof.core (s.diskTimer + 1) s = .next t ∧ t.runState = .halted ∧ t.pc = s.pc ∧
      t.cycle = s.cycle + s.diskTimer + 1 ∧ t.diskTimer = 0 ∧ s.SameMemories t ∧
      (∀ r, r ≠ 1 → r ≠ 2 → t.readReg r = s.readReg r) ∧
      (s.diskTimer ≠ 0 → t.getIor Ior.diskstatus = 0 ∧ t.getIor Ior.diskcmd = 0 ∧ t.getIor Ior.irq1status = 1)
end

