-- ==== Sys2Proof/Laws/Memory.lean ====
section
/-!
SUPPORT. The laws of a memory: a read after a write, a read after a copy, and that every operation keeps the canonical form.
-/

namespace Sys2Proof.Machine

variable {w : Nat}

@[simp] theorem Memory.read_nil (a : Nat) : Memory.read ([] : Memory w) a = 0 := rfl

theorem Memory.read_cons (b : Nat) (u : BitVec w) (m : Memory w) (a : Nat) :
    Memory.read ((b, u) :: m) a = if a = b then u else Memory.read m a := rfl

theorem Memory.read_erase (m : Memory w) (a b : Nat) :
    (m.erase a).read b = if b = a then 0 else m.read b := by
  induction m with
  | nil => simp [Memory.erase]
  | cons c m ih =>
    obtain ⟨x, u⟩ := c
    simp only [Memory.erase, List.filter_cons] at ih ⊢
    by_cases hx : x = a
    · subst hx
      by_cases hb : b = x <;> simp_all [Memory.read_cons]
    · by_cases hb : b = x
      · subst hb; simp [hx, Memory.read_cons]
      · simp [hx, hb, Memory.read_cons, ih]

theorem Memory.read_insert (m : Memory w) (a b : Nat) (v : BitVec w) (hn : ∀ c ∈ m, c.1 ≠ a) :
    (m.insert a v).read b = if b = a then v else m.read b := by
  induction m with
  | nil => simp [Memory.insert, Memory.read_cons]
  | cons c m ih =>
    obtain ⟨x, u⟩ := c
    have hx : x ≠ a := hn (x, u) (by simp)
    have ih := ih (fun c hc => hn c (by simp [hc]))
    by_cases hlt : a < x
    · simp [Memory.insert, hlt, Memory.read_cons]
    · by_cases hb : b = x
      · subst hb; simp [Memory.insert, hlt, Memory.read_cons, hx]
      · simp [Memory.insert, hlt, Memory.read_cons, hb, ih]

/-- A read after a write: the value written at the place written, and what was there everywhere else. It holds of every list,
canonical or not. -/
theorem Memory.read_write (m : Memory w) (a b : Nat) (v : BitVec w) :
    (m.write a v).read b = if b = a then v else m.read b := by
  unfold Memory.write
  split
  · next h => rw [Memory.read_erase]; split <;> simp_all [Memory.unlisted]
  · rw [Memory.read_insert _ _ _ _ (by simp [Memory.erase]), Memory.read_erase]
    split <;> rfl

@[simp] theorem Memory.read_write_same (m : Memory w) (a : Nat) (v : BitVec w) : (m.write a v).read a = v := by
  simp [Memory.read_write]

theorem Memory.read_write_ne (m : Memory w) {a b : Nat} (v : BitVec w) (h : b ≠ a) :
    (m.write a v).read b = m.read b := by
  simp [Memory.read_write, h]

/-- A read after a copy: the source's location inside the window, what was there outside it. -/
theorem Memory.read_copy (src dst : Memory w) (sa da n b : Nat) :
    (Memory.copy src dst sa da n).read b =
      if da ≤ b ∧ b < da + n then src.read (sa + (b - da)) else dst.read b := by
  induction n with
  | zero => rw [Memory.copy, if_neg (by omega)]
  | succ n ih =>
    rw [Memory.copy, Memory.read_write, ih]
    by_cases h : b = da + n
    · subst h
      rw [if_pos rfl, if_pos (by omega)]; congr 1; omega
    · rw [if_neg h]
      by_cases h2 : da ≤ b ∧ b < da + n
      · rw [if_pos h2, if_pos (by omega)]
      · rw [if_neg h2, if_neg (by omega)]

/-! ### The canonical form -/

@[simp] theorem Memory.wfFrom_nil (lo size : Nat) : Memory.wfFrom lo size ([] : Memory w) = true := rfl

@[simp] theorem Memory.wfFrom_cons (lo size a : Nat) (v : BitVec w) (m : Memory w) :
    Memory.wfFrom lo size ((a, v) :: m) = true ↔
      lo ≤ a ∧ a < size ∧ v ≠ 0 ∧ Memory.wfFrom (a + 1) size m = true := by
  simp [Memory.wfFrom, Memory.unlisted, and_assoc]

theorem Memory.wfFrom_mono {lo lo' size : Nat} {m : Memory w} (h : m.wfFrom lo size = true) (hl : lo' ≤ lo) :
    m.wfFrom lo' size = true := by
  cases m with
  | nil => rfl
  | cons c m =>
    obtain ⟨a, v⟩ := c
    rw [Memory.wfFrom_cons] at h ⊢
    exact ⟨by omega, h.2⟩

theorem Memory.erase_wfFrom {lo size : Nat} {m : Memory w} (a : Nat) (h : m.wfFrom lo size = true) :
    (m.erase a).wfFrom lo size = true := by
  induction m generalizing lo with
  | nil => rfl
  | cons c m ih =>
    obtain ⟨x, u⟩ := c
    rw [Memory.wfFrom_cons] at h
    obtain ⟨h1, h2, h3, h4⟩ := h
    by_cases hx : x = a
    · have : Memory.erase ((x, u) :: m) a = Memory.erase m a := by simp [Memory.erase, hx]
      rw [this]
      exact Memory.wfFrom_mono (ih h4) (by omega)
    · have : Memory.erase ((x, u) :: m) a = (x, u) :: Memory.erase m a := by simp [Memory.erase, hx]
      rw [this, Memory.wfFrom_cons]
      exact ⟨h1, h2, h3, ih h4⟩

theorem Memory.insert_wfFrom {lo size a : Nat} {m : Memory w} {v : BitVec w} (h : m.wfFrom lo size = true)
    (hn : ∀ c ∈ m, c.1 ≠ a) (hlo : lo ≤ a) (hs : a < size) (hv : v ≠ 0) :
    (m.insert a v).wfFrom lo size = true := by
  induction m generalizing lo with
  | nil => simpa [Memory.insert, hlo, hs] using hv
  | cons c m ih =>
    obtain ⟨x, u⟩ := c
    have hx : x ≠ a := hn (x, u) (by simp)
    rw [Memory.wfFrom_cons] at h
    obtain ⟨h1, h2, h3, h4⟩ := h
    by_cases hlt : a < x
    · simp only [Memory.insert, hlt, if_true, Memory.wfFrom_cons]
      exact ⟨hlo, hs, hv, by omega, h2, h3, h4⟩
    · simp only [Memory.insert, hlt, if_false, Memory.wfFrom_cons]
      exact ⟨h1, h2, h3, ih h4 (fun c hc => hn c (by simp [hc])) (by omega)⟩

/-- A write inside the space keeps the canonical form. -/
theorem Memory.write_wf {size a : Nat} {m : Memory w} (v : BitVec w) (h : m.wf size = true) (ha : a < size) :
    (m.write a v).wf size = true := by
  unfold Memory.write Memory.wf at *
  split
  · exact Memory.erase_wfFrom a h
  · next hv =>
    exact Memory.insert_wfFrom (Memory.erase_wfFrom a h) (by simp [Memory.erase]) (Nat.zero_le _) ha hv

/-- A copy inside the space keeps the canonical form. -/
theorem Memory.copy_wf {size : Nat} (src : Memory w) {dst : Memory w} (sa : Nat) {da n : Nat}
    (h : dst.wf size = true) (hn : da + n ≤ size) : (Memory.copy src dst sa da n).wf size = true := by
  induction n with
  | zero => exact h
  | succ n ih => exact Memory.write_wf _ (ih (by omega)) (by omega)

theorem Memory.ofImageFrom_wf (lo size : Nat) (vs : List (BitVec w)) (h : lo + vs.length ≤ size) :
    (Memory.ofImageFrom lo vs).wfFrom lo size = true := by
  induction vs generalizing lo with
  | nil => rfl
  | cons v vs ih =>
    simp only [List.length_cons] at h
    have ih := ih (lo + 1) (by omega)
    unfold Memory.ofImageFrom
    split
    · exact Memory.wfFrom_mono ih (by omega)
    · next hv =>
      rw [Memory.wfFrom_cons]
      exact ⟨by omega, by omega, hv, ih⟩

/-- An image that fits gives a memory in canonical form. -/
theorem Memory.ofImage_wf (size : Nat) (vs : List (BitVec w)) (h : vs.length ≤ size) :
    (Memory.ofImage vs).wf size = true :=
  Memory.ofImageFrom_wf 0 size vs (by omega)

/-- Outside the space a canonical memory lists nothing. -/
theorem Memory.wfFrom_mem {lo size : Nat} {m : Memory w} (h : m.wfFrom lo size = true) :
    ∀ c ∈ m, lo ≤ c.1 ∧ c.1 < size ∧ c.2 ≠ 0 := by
  induction m generalizing lo with
  | nil => simp
  | cons c m ih =>
    obtain ⟨a, v⟩ := c
    rw [Memory.wfFrom_cons] at h
    obtain ⟨h1, h2, h3, h4⟩ := h
    intro c hc
    rcases List.mem_cons.mp hc with rfl | hc
    · exact ⟨h1, h2, h3⟩
    · have := ih h4 c hc
      exact ⟨by omega, this.2⟩

theorem Memory.read_below {lo size a : Nat} {m : Memory w} (h : m.wfFrom lo size = true) (ha : a < lo) : m.read a = 0 := by
  induction m generalizing lo with
  | nil => rfl
  | cons c m ih =>
    obtain ⟨b, v⟩ := c
    rw [Memory.wfFrom_cons] at h
    obtain ⟨h1, -, -, h4⟩ := h
    rw [Memory.read_cons, if_neg (by omega)]
    exact ih h4 (by omega)

/-- Two canonical memories that read the same everywhere are the same list. -/
theorem Memory.ext_of_wf {lo size : Nat} {m n : Memory w} (hm : m.wfFrom lo size = true) (hn : n.wfFrom lo size = true)
    (h : ∀ a, m.read a = n.read a) : m = n := by
  induction m generalizing lo n with
  | nil =>
    cases n with
    | nil => rfl
    | cons c n =>
      obtain ⟨b, v⟩ := c
      have := h b
      rw [Memory.wfFrom_cons] at hn
      simp [Memory.read_cons] at this
      exact absurd this.symm hn.2.2.1
  | cons c m ih =>
    obtain ⟨b, v⟩ := c
    rw [Memory.wfFrom_cons] at hm
    obtain ⟨h1, h2, h3, h4⟩ := hm
    cases n with
    | nil =>
      have := h b
      simp [Memory.read_cons] at this
      exact absurd this h3
    | cons d n =>
      obtain ⟨x, u⟩ := d
      rw [Memory.wfFrom_cons] at hn
      obtain ⟨k1, k2, k3, k4⟩ := hn
      have hbx : b = x := by
        rcases Nat.lt_trichotomy b x with hlt | heq | hgt
        · have := h b
          rw [Memory.read_cons, Memory.read_cons, if_pos rfl, if_neg (by omega), Memory.read_below k4 (by omega)] at this
          exact absurd this h3
        · exact heq
        · have := h x
          rw [Memory.read_cons, Memory.read_cons, if_pos rfl, if_neg (by omega), Memory.read_below h4 (by omega)] at this
          exact absurd this.symm k3
      subst hbx
      have hvu : v = u := by simpa [Memory.read_cons] using h b
      subst hvu
      rw [ih h4 k4 (fun a => by
        by_cases ha : a = b
        · subst ha; rw [Memory.read_below h4 (by omega), Memory.read_below k4 (by omega)]
        · simpa [Memory.read_cons, ha] using h a)]

end Sys2Proof.Machine
end

