-- ==== Sys2Proof/Laws/State.lean ====
section
/-!
SUPPORT. What each update of the state leaves alone, one lemma for each field and each update, and what the accessors read after
an update of something else. All are true by definition.
-/

namespace Sys2Proof.Machine

/-! ### `writeReg` -/

@[simp] theorem State.writeReg_params (s : State) (r : RegIdx) (v : Word) : (s.writeReg r v).params = s.params := rfl
@[simp] theorem State.writeReg_pc (s : State) (r : RegIdx) (v : Word) : (s.writeReg r v).pc = s.pc := rfl
@[simp] theorem State.writeReg_imem (s : State) (r : RegIdx) (v : Word) : (s.writeReg r v).imem = s.imem := rfl
@[simp] theorem State.writeReg_dmem (s : State) (r : RegIdx) (v : Word) : (s.writeReg r v).dmem = s.dmem := rfl
@[simp] theorem State.writeReg_ior (s : State) (r : RegIdx) (v : Word) : (s.writeReg r v).ior = s.ior := rfl
@[simp] theorem State.writeReg_diskTimer (s : State) (r : RegIdx) (v : Word) : (s.writeReg r v).diskTimer = s.diskTimer := rfl
@[simp] theorem State.writeReg_issuedThisCycle (s : State) (r : RegIdx) (v : Word) : (s.writeReg r v).issuedThisCycle = s.issuedThisCycle := rfl
@[simp] theorem State.writeReg_schedPtr (s : State) (r : RegIdx) (v : Word) : (s.writeReg r v).schedPtr = s.schedPtr := rfl
@[simp] theorem State.writeReg_cycle (s : State) (r : RegIdx) (v : Word) : (s.writeReg r v).cycle = s.cycle := rfl
@[simp] theorem State.writeReg_runState (s : State) (r : RegIdx) (v : Word) : (s.writeReg r v).runState = s.runState := rfl
@[simp] theorem State.writeReg_disk (s : State) (r : RegIdx) (v : Word) : (s.writeReg r v).disk = s.disk := rfl
@[simp] theorem State.writeReg_fb (s : State) (r : RegIdx) (v : Word) : (s.writeReg r v).fb = s.fb := rfl
@[simp] theorem State.writeReg_obs (s : State) (r : RegIdx) (v : Word) : (s.writeReg r v).obs = s.obs := rfl
@[simp] theorem State.writeReg_getIor (s : State) (r : RegIdx) (v : Word) (j : IorIdx) : (s.writeReg r v).getIor j = s.getIor j := rfl
@[simp] theorem State.writeReg_readDmem (s : State) (r : RegIdx) (v : Word) (y : Nat) : (s.writeReg r v).readDmem y = s.readDmem y := rfl
@[simp] theorem State.writeReg_readDisk (s : State) (r : RegIdx) (v : Word) (y z : Nat) : (s.writeReg r v).readDisk y z = s.readDisk y z := rfl
@[simp] theorem State.writeReg_readFb (s : State) (r : RegIdx) (v : Word) (y : Nat) : (s.writeReg r v).readFb y = s.readFb y := rfl

/-! ### `loadImmediates` -/

@[simp] theorem State.loadImmediates_params (s : State) (a b : Imm) : (s.loadImmediates a b).params = s.params := rfl
@[simp] theorem State.loadImmediates_pc (s : State) (a b : Imm) : (s.loadImmediates a b).pc = s.pc := rfl
@[simp] theorem State.loadImmediates_imem (s : State) (a b : Imm) : (s.loadImmediates a b).imem = s.imem := rfl
@[simp] theorem State.loadImmediates_dmem (s : State) (a b : Imm) : (s.loadImmediates a b).dmem = s.dmem := rfl
@[simp] theorem State.loadImmediates_ior (s : State) (a b : Imm) : (s.loadImmediates a b).ior = s.ior := rfl
@[simp] theorem State.loadImmediates_diskTimer (s : State) (a b : Imm) : (s.loadImmediates a b).diskTimer = s.diskTimer := rfl
@[simp] theorem State.loadImmediates_issuedThisCycle (s : State) (a b : Imm) : (s.loadImmediates a b).issuedThisCycle = s.issuedThisCycle := rfl
@[simp] theorem State.loadImmediates_schedPtr (s : State) (a b : Imm) : (s.loadImmediates a b).schedPtr = s.schedPtr := rfl
@[simp] theorem State.loadImmediates_cycle (s : State) (a b : Imm) : (s.loadImmediates a b).cycle = s.cycle := rfl
@[simp] theorem State.loadImmediates_runState (s : State) (a b : Imm) : (s.loadImmediates a b).runState = s.runState := rfl
@[simp] theorem State.loadImmediates_disk (s : State) (a b : Imm) : (s.loadImmediates a b).disk = s.disk := rfl
@[simp] theorem State.loadImmediates_fb (s : State) (a b : Imm) : (s.loadImmediates a b).fb = s.fb := rfl
@[simp] theorem State.loadImmediates_obs (s : State) (a b : Imm) : (s.loadImmediates a b).obs = s.obs := rfl
@[simp] theorem State.loadImmediates_getIor (s : State) (a b : Imm) (j : IorIdx) : (s.loadImmediates a b).getIor j = s.getIor j := rfl
@[simp] theorem State.loadImmediates_readDmem (s : State) (a b : Imm) (y : Nat) : (s.loadImmediates a b).readDmem y = s.readDmem y := rfl
@[simp] theorem State.loadImmediates_readDisk (s : State) (a b : Imm) (y z : Nat) : (s.loadImmediates a b).readDisk y z = s.readDisk y z := rfl
@[simp] theorem State.loadImmediates_readFb (s : State) (a b : Imm) (y : Nat) : (s.loadImmediates a b).readFb y = s.readFb y := rfl

/-! ### `setPc` -/

@[simp] theorem State.setPc_params (s : State) (t : PcWord) : (s.setPc t).params = s.params := rfl
@[simp] theorem State.setPc_regs (s : State) (t : PcWord) : (s.setPc t).regs = s.regs := rfl
@[simp] theorem State.setPc_pc (s : State) (t : PcWord) : (s.setPc t).pc = t := rfl
@[simp] theorem State.setPc_imem (s : State) (t : PcWord) : (s.setPc t).imem = s.imem := rfl
@[simp] theorem State.setPc_dmem (s : State) (t : PcWord) : (s.setPc t).dmem = s.dmem := rfl
@[simp] theorem State.setPc_ior (s : State) (t : PcWord) : (s.setPc t).ior = s.ior := rfl
@[simp] theorem State.setPc_diskTimer (s : State) (t : PcWord) : (s.setPc t).diskTimer = s.diskTimer := rfl
@[simp] theorem State.setPc_issuedThisCycle (s : State) (t : PcWord) : (s.setPc t).issuedThisCycle = s.issuedThisCycle := rfl
@[simp] theorem State.setPc_schedPtr (s : State) (t : PcWord) : (s.setPc t).schedPtr = s.schedPtr := rfl
@[simp] theorem State.setPc_cycle (s : State) (t : PcWord) : (s.setPc t).cycle = s.cycle := rfl
@[simp] theorem State.setPc_runState (s : State) (t : PcWord) : (s.setPc t).runState = s.runState := rfl
@[simp] theorem State.setPc_disk (s : State) (t : PcWord) : (s.setPc t).disk = s.disk := rfl
@[simp] theorem State.setPc_fb (s : State) (t : PcWord) : (s.setPc t).fb = s.fb := rfl
@[simp] theorem State.setPc_obs (s : State) (t : PcWord) : (s.setPc t).obs = s.obs := rfl
@[simp] theorem State.setPc_readReg (s : State) (t : PcWord) (i : RegIdx) : (s.setPc t).readReg i = s.readReg i := rfl
@[simp] theorem State.setPc_getIor (s : State) (t : PcWord) (j : IorIdx) : (s.setPc t).getIor j = s.getIor j := rfl
@[simp] theorem State.setPc_readDmem (s : State) (t : PcWord) (y : Nat) : (s.setPc t).readDmem y = s.readDmem y := rfl
@[simp] theorem State.setPc_readDisk (s : State) (t : PcWord) (y z : Nat) : (s.setPc t).readDisk y z = s.readDisk y z := rfl
@[simp] theorem State.setPc_readFb (s : State) (t : PcWord) (y : Nat) : (s.setPc t).readFb y = s.readFb y := rfl

/-! ### `advance` -/

@[simp] theorem State.advance_params (s : State) : (s.advance).params = s.params := rfl
@[simp] theorem State.advance_regs (s : State) : (s.advance).regs = s.regs := rfl
@[simp] theorem State.advance_pc (s : State) : (s.advance).pc = s.pc + 1 := rfl
@[simp] theorem State.advance_imem (s : State) : (s.advance).imem = s.imem := rfl
@[simp] theorem State.advance_dmem (s : State) : (s.advance).dmem = s.dmem := rfl
@[simp] theorem State.advance_ior (s : State) : (s.advance).ior = s.ior := rfl
@[simp] theorem State.advance_diskTimer (s : State) : (s.advance).diskTimer = s.diskTimer := rfl
@[simp] theorem State.advance_issuedThisCycle (s : State) : (s.advance).issuedThisCycle = s.issuedThisCycle := rfl
@[simp] theorem State.advance_schedPtr (s : State) : (s.advance).schedPtr = s.schedPtr := rfl
@[simp] theorem State.advance_cycle (s : State) : (s.advance).cycle = s.cycle := rfl
@[simp] theorem State.advance_runState (s : State) : (s.advance).runState = s.runState := rfl
@[simp] theorem State.advance_disk (s : State) : (s.advance).disk = s.disk := rfl
@[simp] theorem State.advance_fb (s : State) : (s.advance).fb = s.fb := rfl
@[simp] theorem State.advance_obs (s : State) : (s.advance).obs = s.obs := rfl
@[simp] theorem State.advance_readReg (s : State) (i : RegIdx) : (s.advance).readReg i = s.readReg i := rfl
@[simp] theorem State.advance_getIor (s : State) (j : IorIdx) : (s.advance).getIor j = s.getIor j := rfl
@[simp] theorem State.advance_readDmem (s : State) (y : Nat) : (s.advance).readDmem y = s.readDmem y := rfl
@[simp] theorem State.advance_readDisk (s : State) (y z : Nat) : (s.advance).readDisk y z = s.readDisk y z := rfl
@[simp] theorem State.advance_readFb (s : State) (y : Nat) : (s.advance).readFb y = s.readFb y := rfl

/-! ### `writeDmem` -/

@[simp] theorem State.writeDmem_params (s : State) (a : Nat) (v : Word) : (s.writeDmem a v).params = s.params := rfl
@[simp] theorem State.writeDmem_regs (s : State) (a : Nat) (v : Word) : (s.writeDmem a v).regs = s.regs := rfl
@[simp] theorem State.writeDmem_pc (s : State) (a : Nat) (v : Word) : (s.writeDmem a v).pc = s.pc := rfl
@[simp] theorem State.writeDmem_imem (s : State) (a : Nat) (v : Word) : (s.writeDmem a v).imem = s.imem := rfl
@[simp] theorem State.writeDmem_dmem (s : State) (a : Nat) (v : Word) : (s.writeDmem a v).dmem = s.dmem.write a v := rfl
@[simp] theorem State.writeDmem_ior (s : State) (a : Nat) (v : Word) : (s.writeDmem a v).ior = s.ior := rfl
@[simp] theorem State.writeDmem_diskTimer (s : State) (a : Nat) (v : Word) : (s.writeDmem a v).diskTimer = s.diskTimer := rfl
@[simp] theorem State.writeDmem_issuedThisCycle (s : State) (a : Nat) (v : Word) : (s.writeDmem a v).issuedThisCycle = s.issuedThisCycle := rfl
@[simp] theorem State.writeDmem_schedPtr (s : State) (a : Nat) (v : Word) : (s.writeDmem a v).schedPtr = s.schedPtr := rfl
@[simp] theorem State.writeDmem_cycle (s : State) (a : Nat) (v : Word) : (s.writeDmem a v).cycle = s.cycle := rfl
@[simp] theorem State.writeDmem_runState (s : State) (a : Nat) (v : Word) : (s.writeDmem a v).runState = s.runState := rfl
@[simp] theorem State.writeDmem_disk (s : State) (a : Nat) (v : Word) : (s.writeDmem a v).disk = s.disk := rfl
@[simp] theorem State.writeDmem_fb (s : State) (a : Nat) (v : Word) : (s.writeDmem a v).fb = s.fb := rfl
@[simp] theorem State.writeDmem_obs (s : State) (a : Nat) (v : Word) : (s.writeDmem a v).obs = s.obs := rfl
@[simp] theorem State.writeDmem_readReg (s : State) (a : Nat) (v : Word) (i : RegIdx) : (s.writeDmem a v).readReg i = s.readReg i := rfl
@[simp] theorem State.writeDmem_getIor (s : State) (a : Nat) (v : Word) (j : IorIdx) : (s.writeDmem a v).getIor j = s.getIor j := rfl
@[simp] theorem State.writeDmem_readDisk (s : State) (a : Nat) (v : Word) (y z : Nat) : (s.writeDmem a v).readDisk y z = s.readDisk y z := rfl
@[simp] theorem State.writeDmem_readFb (s : State) (a : Nat) (v : Word) (y : Nat) : (s.writeDmem a v).readFb y = s.readFb y := rfl

/-! ### `writeFb` -/

@[simp] theorem State.writeFb_params (s : State) (k : Nat) (p : Pixel) : (s.writeFb k p).params = s.params := rfl
@[simp] theorem State.writeFb_regs (s : State) (k : Nat) (p : Pixel) : (s.writeFb k p).regs = s.regs := rfl
@[simp] theorem State.writeFb_pc (s : State) (k : Nat) (p : Pixel) : (s.writeFb k p).pc = s.pc := rfl
@[simp] theorem State.writeFb_imem (s : State) (k : Nat) (p : Pixel) : (s.writeFb k p).imem = s.imem := rfl
@[simp] theorem State.writeFb_dmem (s : State) (k : Nat) (p : Pixel) : (s.writeFb k p).dmem = s.dmem := rfl
@[simp] theorem State.writeFb_ior (s : State) (k : Nat) (p : Pixel) : (s.writeFb k p).ior = s.ior := rfl
@[simp] theorem State.writeFb_diskTimer (s : State) (k : Nat) (p : Pixel) : (s.writeFb k p).diskTimer = s.diskTimer := rfl
@[simp] theorem State.writeFb_issuedThisCycle (s : State) (k : Nat) (p : Pixel) : (s.writeFb k p).issuedThisCycle = s.issuedThisCycle := rfl
@[simp] theorem State.writeFb_schedPtr (s : State) (k : Nat) (p : Pixel) : (s.writeFb k p).schedPtr = s.schedPtr := rfl
@[simp] theorem State.writeFb_cycle (s : State) (k : Nat) (p : Pixel) : (s.writeFb k p).cycle = s.cycle := rfl
@[simp] theorem State.writeFb_runState (s : State) (k : Nat) (p : Pixel) : (s.writeFb k p).runState = s.runState := rfl
@[simp] theorem State.writeFb_disk (s : State) (k : Nat) (p : Pixel) : (s.writeFb k p).disk = s.disk := rfl
@[simp] theorem State.writeFb_fb (s : State) (k : Nat) (p : Pixel) : (s.writeFb k p).fb = s.fb.write k p := rfl
@[simp] theorem State.writeFb_obs (s : State) (k : Nat) (p : Pixel) : (s.writeFb k p).obs = s.obs := rfl
@[simp] theorem State.writeFb_readReg (s : State) (k : Nat) (p : Pixel) (i : RegIdx) : (s.writeFb k p).readReg i = s.readReg i := rfl
@[simp] theorem State.writeFb_getIor (s : State) (k : Nat) (p : Pixel) (j : IorIdx) : (s.writeFb k p).getIor j = s.getIor j := rfl
@[simp] theorem State.writeFb_readDmem (s : State) (k : Nat) (p : Pixel) (y : Nat) : (s.writeFb k p).readDmem y = s.readDmem y := rfl
@[simp] theorem State.writeFb_readDisk (s : State) (k : Nat) (p : Pixel) (y z : Nat) : (s.writeFb k p).readDisk y z = s.readDisk y z := rfl

/-! ### `setIor` -/

@[simp] theorem State.setIor_params (s : State) (a : IorIdx) (v : Word) : (s.setIor a v).params = s.params := rfl
@[simp] theorem State.setIor_regs (s : State) (a : IorIdx) (v : Word) : (s.setIor a v).regs = s.regs := rfl
@[simp] theorem State.setIor_pc (s : State) (a : IorIdx) (v : Word) : (s.setIor a v).pc = s.pc := rfl
@[simp] theorem State.setIor_imem (s : State) (a : IorIdx) (v : Word) : (s.setIor a v).imem = s.imem := rfl
@[simp] theorem State.setIor_dmem (s : State) (a : IorIdx) (v : Word) : (s.setIor a v).dmem = s.dmem := rfl
@[simp] theorem State.setIor_diskTimer (s : State) (a : IorIdx) (v : Word) : (s.setIor a v).diskTimer = s.diskTimer := rfl
@[simp] theorem State.setIor_issuedThisCycle (s : State) (a : IorIdx) (v : Word) : (s.setIor a v).issuedThisCycle = s.issuedThisCycle := rfl
@[simp] theorem State.setIor_schedPtr (s : State) (a : IorIdx) (v : Word) : (s.setIor a v).schedPtr = s.schedPtr := rfl
@[simp] theorem State.setIor_cycle (s : State) (a : IorIdx) (v : Word) : (s.setIor a v).cycle = s.cycle := rfl
@[simp] theorem State.setIor_runState (s : State) (a : IorIdx) (v : Word) : (s.setIor a v).runState = s.runState := rfl
@[simp] theorem State.setIor_disk (s : State) (a : IorIdx) (v : Word) : (s.setIor a v).disk = s.disk := rfl
@[simp] theorem State.setIor_fb (s : State) (a : IorIdx) (v : Word) : (s.setIor a v).fb = s.fb := rfl
@[simp] theorem State.setIor_obs (s : State) (a : IorIdx) (v : Word) : (s.setIor a v).obs = s.obs := rfl
@[simp] theorem State.setIor_readReg (s : State) (a : IorIdx) (v : Word) (i : RegIdx) : (s.setIor a v).readReg i = s.readReg i := rfl
@[simp] theorem State.setIor_readDmem (s : State) (a : IorIdx) (v : Word) (y : Nat) : (s.setIor a v).readDmem y = s.readDmem y := rfl
@[simp] theorem State.setIor_readDisk (s : State) (a : IorIdx) (v : Word) (y z : Nat) : (s.setIor a v).readDisk y z = s.readDisk y z := rfl
@[simp] theorem State.setIor_readFb (s : State) (a : IorIdx) (v : Word) (y : Nat) : (s.setIor a v).readFb y = s.readFb y := rfl

/-! ### `setDiskTimer` -/

@[simp] theorem State.setDiskTimer_params (s : State) (n : Nat) : (s.setDiskTimer n).params = s.params := rfl
@[simp] theorem State.setDiskTimer_regs (s : State) (n : Nat) : (s.setDiskTimer n).regs = s.regs := rfl
@[simp] theorem State.setDiskTimer_pc (s : State) (n : Nat) : (s.setDiskTimer n).pc = s.pc := rfl
@[simp] theorem State.setDiskTimer_imem (s : State) (n : Nat) : (s.setDiskTimer n).imem = s.imem := rfl
@[simp] theorem State.setDiskTimer_dmem (s : State) (n : Nat) : (s.setDiskTimer n).dmem = s.dmem := rfl
@[simp] theorem State.setDiskTimer_ior (s : State) (n : Nat) : (s.setDiskTimer n).ior = s.ior := rfl
@[simp] theorem State.setDiskTimer_diskTimer (s : State) (n : Nat) : (s.setDiskTimer n).diskTimer = n := rfl
@[simp] theorem State.setDiskTimer_issuedThisCycle (s : State) (n : Nat) : (s.setDiskTimer n).issuedThisCycle = s.issuedThisCycle := rfl
@[simp] theorem State.setDiskTimer_schedPtr (s : State) (n : Nat) : (s.setDiskTimer n).schedPtr = s.schedPtr := rfl
@[simp] theorem State.setDiskTimer_cycle (s : State) (n : Nat) : (s.setDiskTimer n).cycle = s.cycle := rfl
@[simp] theorem State.setDiskTimer_runState (s : State) (n : Nat) : (s.setDiskTimer n).runState = s.runState := rfl
@[simp] theorem State.setDiskTimer_disk (s : State) (n : Nat) : (s.setDiskTimer n).disk = s.disk := rfl
@[simp] theorem State.setDiskTimer_fb (s : State) (n : Nat) : (s.setDiskTimer n).fb = s.fb := rfl
@[simp] theorem State.setDiskTimer_obs (s : State) (n : Nat) : (s.setDiskTimer n).obs = s.obs := rfl
@[simp] theorem State.setDiskTimer_readReg (s : State) (n : Nat) (i : RegIdx) : (s.setDiskTimer n).readReg i = s.readReg i := rfl
@[simp] theorem State.setDiskTimer_getIor (s : State) (n : Nat) (j : IorIdx) : (s.setDiskTimer n).getIor j = s.getIor j := rfl
@[simp] theorem State.setDiskTimer_readDmem (s : State) (n : Nat) (y : Nat) : (s.setDiskTimer n).readDmem y = s.readDmem y := rfl
@[simp] theorem State.setDiskTimer_readDisk (s : State) (n : Nat) (y z : Nat) : (s.setDiskTimer n).readDisk y z = s.readDisk y z := rfl
@[simp] theorem State.setDiskTimer_readFb (s : State) (n : Nat) (y : Nat) : (s.setDiskTimer n).readFb y = s.readFb y := rfl

/-! ### `setIssued` -/

@[simp] theorem State.setIssued_params (s : State) (b : Bool) : (s.setIssued b).params = s.params := rfl
@[simp] theorem State.setIssued_regs (s : State) (b : Bool) : (s.setIssued b).regs = s.regs := rfl
@[simp] theorem State.setIssued_pc (s : State) (b : Bool) : (s.setIssued b).pc = s.pc := rfl
@[simp] theorem State.setIssued_imem (s : State) (b : Bool) : (s.setIssued b).imem = s.imem := rfl
@[simp] theorem State.setIssued_dmem (s : State) (b : Bool) : (s.setIssued b).dmem = s.dmem := rfl
@[simp] theorem State.setIssued_ior (s : State) (b : Bool) : (s.setIssued b).ior = s.ior := rfl
@[simp] theorem State.setIssued_diskTimer (s : State) (b : Bool) : (s.setIssued b).diskTimer = s.diskTimer := rfl
@[simp] theorem State.setIssued_issuedThisCycle (s : State) (b : Bool) : (s.setIssued b).issuedThisCycle = b := rfl
@[simp] theorem State.setIssued_schedPtr (s : State) (b : Bool) : (s.setIssued b).schedPtr = s.schedPtr := rfl
@[simp] theorem State.setIssued_cycle (s : State) (b : Bool) : (s.setIssued b).cycle = s.cycle := rfl
@[simp] theorem State.setIssued_runState (s : State) (b : Bool) : (s.setIssued b).runState = s.runState := rfl
@[simp] theorem State.setIssued_disk (s : State) (b : Bool) : (s.setIssued b).disk = s.disk := rfl
@[simp] theorem State.setIssued_fb (s : State) (b : Bool) : (s.setIssued b).fb = s.fb := rfl
@[simp] theorem State.setIssued_obs (s : State) (b : Bool) : (s.setIssued b).obs = s.obs := rfl
@[simp] theorem State.setIssued_readReg (s : State) (b : Bool) (i : RegIdx) : (s.setIssued b).readReg i = s.readReg i := rfl
@[simp] theorem State.setIssued_getIor (s : State) (b : Bool) (j : IorIdx) : (s.setIssued b).getIor j = s.getIor j := rfl
@[simp] theorem State.setIssued_readDmem (s : State) (b : Bool) (y : Nat) : (s.setIssued b).readDmem y = s.readDmem y := rfl
@[simp] theorem State.setIssued_readDisk (s : State) (b : Bool) (y z : Nat) : (s.setIssued b).readDisk y z = s.readDisk y z := rfl
@[simp] theorem State.setIssued_readFb (s : State) (b : Bool) (y : Nat) : (s.setIssued b).readFb y = s.readFb y := rfl

/-! ### `setSchedPtr` -/

@[simp] theorem State.setSchedPtr_params (s : State) (n : Nat) : (s.setSchedPtr n).params = s.params := rfl
@[simp] theorem State.setSchedPtr_regs (s : State) (n : Nat) : (s.setSchedPtr n).regs = s.regs := rfl
@[simp] theorem State.setSchedPtr_pc (s : State) (n : Nat) : (s.setSchedPtr n).pc = s.pc := rfl
@[simp] theorem State.setSchedPtr_imem (s : State) (n : Nat) : (s.setSchedPtr n).imem = s.imem := rfl
@[simp] theorem State.setSchedPtr_dmem (s : State) (n : Nat) : (s.setSchedPtr n).dmem = s.dmem := rfl
@[simp] theorem State.setSchedPtr_ior (s : State) (n : Nat) : (s.setSchedPtr n).ior = s.ior := rfl
@[simp] theorem State.setSchedPtr_diskTimer (s : State) (n : Nat) : (s.setSchedPtr n).diskTimer = s.diskTimer := rfl
@[simp] theorem State.setSchedPtr_issuedThisCycle (s : State) (n : Nat) : (s.setSchedPtr n).issuedThisCycle = s.issuedThisCycle := rfl
@[simp] theorem State.setSchedPtr_schedPtr (s : State) (n : Nat) : (s.setSchedPtr n).schedPtr = n := rfl
@[simp] theorem State.setSchedPtr_cycle (s : State) (n : Nat) : (s.setSchedPtr n).cycle = s.cycle := rfl
@[simp] theorem State.setSchedPtr_runState (s : State) (n : Nat) : (s.setSchedPtr n).runState = s.runState := rfl
@[simp] theorem State.setSchedPtr_disk (s : State) (n : Nat) : (s.setSchedPtr n).disk = s.disk := rfl
@[simp] theorem State.setSchedPtr_fb (s : State) (n : Nat) : (s.setSchedPtr n).fb = s.fb := rfl
@[simp] theorem State.setSchedPtr_obs (s : State) (n : Nat) : (s.setSchedPtr n).obs = s.obs := rfl
@[simp] theorem State.setSchedPtr_readReg (s : State) (n : Nat) (i : RegIdx) : (s.setSchedPtr n).readReg i = s.readReg i := rfl
@[simp] theorem State.setSchedPtr_getIor (s : State) (n : Nat) (j : IorIdx) : (s.setSchedPtr n).getIor j = s.getIor j := rfl
@[simp] theorem State.setSchedPtr_readDmem (s : State) (n : Nat) (y : Nat) : (s.setSchedPtr n).readDmem y = s.readDmem y := rfl
@[simp] theorem State.setSchedPtr_readDisk (s : State) (n : Nat) (y z : Nat) : (s.setSchedPtr n).readDisk y z = s.readDisk y z := rfl
@[simp] theorem State.setSchedPtr_readFb (s : State) (n : Nat) (y : Nat) : (s.setSchedPtr n).readFb y = s.readFb y := rfl

/-! ### `setCycle` -/

@[simp] theorem State.setCycle_params (s : State) (n : Nat) : (s.setCycle n).params = s.params := rfl
@[simp] theorem State.setCycle_regs (s : State) (n : Nat) : (s.setCycle n).regs = s.regs := rfl
@[simp] theorem State.setCycle_pc (s : State) (n : Nat) : (s.setCycle n).pc = s.pc := rfl
@[simp] theorem State.setCycle_imem (s : State) (n : Nat) : (s.setCycle n).imem = s.imem := rfl
@[simp] theorem State.setCycle_dmem (s : State) (n : Nat) : (s.setCycle n).dmem = s.dmem := rfl
@[simp] theorem State.setCycle_ior (s : State) (n : Nat) : (s.setCycle n).ior = s.ior := rfl
@[simp] theorem State.setCycle_diskTimer (s : State) (n : Nat) : (s.setCycle n).diskTimer = s.diskTimer := rfl
@[simp] theorem State.setCycle_issuedThisCycle (s : State) (n : Nat) : (s.setCycle n).issuedThisCycle = s.issuedThisCycle := rfl
@[simp] theorem State.setCycle_schedPtr (s : State) (n : Nat) : (s.setCycle n).schedPtr = s.schedPtr := rfl
@[simp] theorem State.setCycle_cycle (s : State) (n : Nat) : (s.setCycle n).cycle = n := rfl
@[simp] theorem State.setCycle_runState (s : State) (n : Nat) : (s.setCycle n).runState = s.runState := rfl
@[simp] theorem State.setCycle_disk (s : State) (n : Nat) : (s.setCycle n).disk = s.disk := rfl
@[simp] theorem State.setCycle_fb (s : State) (n : Nat) : (s.setCycle n).fb = s.fb := rfl
@[simp] theorem State.setCycle_obs (s : State) (n : Nat) : (s.setCycle n).obs = s.obs := rfl
@[simp] theorem State.setCycle_readReg (s : State) (n : Nat) (i : RegIdx) : (s.setCycle n).readReg i = s.readReg i := rfl
@[simp] theorem State.setCycle_getIor (s : State) (n : Nat) (j : IorIdx) : (s.setCycle n).getIor j = s.getIor j := rfl
@[simp] theorem State.setCycle_readDmem (s : State) (n : Nat) (y : Nat) : (s.setCycle n).readDmem y = s.readDmem y := rfl
@[simp] theorem State.setCycle_readDisk (s : State) (n : Nat) (y z : Nat) : (s.setCycle n).readDisk y z = s.readDisk y z := rfl
@[simp] theorem State.setCycle_readFb (s : State) (n : Nat) (y : Nat) : (s.setCycle n).readFb y = s.readFb y := rfl

/-! ### `setRunState` -/

@[simp] theorem State.setRunState_params (s : State) (x : RunState) : (s.setRunState x).params = s.params := rfl
@[simp] theorem State.setRunState_regs (s : State) (x : RunState) : (s.setRunState x).regs = s.regs := rfl
@[simp] theorem State.setRunState_pc (s : State) (x : RunState) : (s.setRunState x).pc = s.pc := rfl
@[simp] theorem State.setRunState_imem (s : State) (x : RunState) : (s.setRunState x).imem = s.imem := rfl
@[simp] theorem State.setRunState_dmem (s : State) (x : RunState) : (s.setRunState x).dmem = s.dmem := rfl
@[simp] theorem State.setRunState_ior (s : State) (x : RunState) : (s.setRunState x).ior = s.ior := rfl
@[simp] theorem State.setRunState_diskTimer (s : State) (x : RunState) : (s.setRunState x).diskTimer = s.diskTimer := rfl
@[simp] theorem State.setRunState_issuedThisCycle (s : State) (x : RunState) : (s.setRunState x).issuedThisCycle = s.issuedThisCycle := rfl
@[simp] theorem State.setRunState_schedPtr (s : State) (x : RunState) : (s.setRunState x).schedPtr = s.schedPtr := rfl
@[simp] theorem State.setRunState_cycle (s : State) (x : RunState) : (s.setRunState x).cycle = s.cycle := rfl
@[simp] theorem State.setRunState_runState (s : State) (x : RunState) : (s.setRunState x).runState = x := rfl
@[simp] theorem State.setRunState_disk (s : State) (x : RunState) : (s.setRunState x).disk = s.disk := rfl
@[simp] theorem State.setRunState_fb (s : State) (x : RunState) : (s.setRunState x).fb = s.fb := rfl
@[simp] theorem State.setRunState_obs (s : State) (x : RunState) : (s.setRunState x).obs = s.obs := rfl
@[simp] theorem State.setRunState_readReg (s : State) (x : RunState) (i : RegIdx) : (s.setRunState x).readReg i = s.readReg i := rfl
@[simp] theorem State.setRunState_getIor (s : State) (x : RunState) (j : IorIdx) : (s.setRunState x).getIor j = s.getIor j := rfl
@[simp] theorem State.setRunState_readDmem (s : State) (x : RunState) (y : Nat) : (s.setRunState x).readDmem y = s.readDmem y := rfl
@[simp] theorem State.setRunState_readDisk (s : State) (x : RunState) (y z : Nat) : (s.setRunState x).readDisk y z = s.readDisk y z := rfl
@[simp] theorem State.setRunState_readFb (s : State) (x : RunState) (y : Nat) : (s.setRunState x).readFb y = s.readFb y := rfl

/-! ### `emitInstr` -/

@[simp] theorem State.emitInstr_params (s : State) (w : Slot) : (s.emitInstr w).params = s.params := rfl
@[simp] theorem State.emitInstr_regs (s : State) (w : Slot) : (s.emitInstr w).regs = s.regs := rfl
@[simp] theorem State.emitInstr_pc (s : State) (w : Slot) : (s.emitInstr w).pc = s.pc := rfl
@[simp] theorem State.emitInstr_imem (s : State) (w : Slot) : (s.emitInstr w).imem = s.imem := rfl
@[simp] theorem State.emitInstr_dmem (s : State) (w : Slot) : (s.emitInstr w).dmem = s.dmem := rfl
@[simp] theorem State.emitInstr_ior (s : State) (w : Slot) : (s.emitInstr w).ior = s.ior := rfl
@[simp] theorem State.emitInstr_diskTimer (s : State) (w : Slot) : (s.emitInstr w).diskTimer = s.diskTimer := rfl
@[simp] theorem State.emitInstr_issuedThisCycle (s : State) (w : Slot) : (s.emitInstr w).issuedThisCycle = s.issuedThisCycle := rfl
@[simp] theorem State.emitInstr_schedPtr (s : State) (w : Slot) : (s.emitInstr w).schedPtr = s.schedPtr := rfl
@[simp] theorem State.emitInstr_cycle (s : State) (w : Slot) : (s.emitInstr w).cycle = s.cycle := rfl
@[simp] theorem State.emitInstr_runState (s : State) (w : Slot) : (s.emitInstr w).runState = s.runState := rfl
@[simp] theorem State.emitInstr_disk (s : State) (w : Slot) : (s.emitInstr w).disk = s.disk := rfl
@[simp] theorem State.emitInstr_fb (s : State) (w : Slot) : (s.emitInstr w).fb = s.fb := rfl
@[simp] theorem State.emitInstr_readReg (s : State) (w : Slot) (i : RegIdx) : (s.emitInstr w).readReg i = s.readReg i := rfl
@[simp] theorem State.emitInstr_getIor (s : State) (w : Slot) (j : IorIdx) : (s.emitInstr w).getIor j = s.getIor j := rfl
@[simp] theorem State.emitInstr_readDmem (s : State) (w : Slot) (y : Nat) : (s.emitInstr w).readDmem y = s.readDmem y := rfl
@[simp] theorem State.emitInstr_readDisk (s : State) (w : Slot) (y z : Nat) : (s.emitInstr w).readDisk y z = s.readDisk y z := rfl
@[simp] theorem State.emitInstr_readFb (s : State) (w : Slot) (y : Nat) : (s.emitInstr w).readFb y = s.readFb y := rfl

/-! ### `emitHw` -/

@[simp] theorem State.emitHw_params (s : State) (d : TraceDir) (a : IorIdx) (v : Word) : (s.emitHw d a v).params = s.params := rfl
@[simp] theorem State.emitHw_regs (s : State) (d : TraceDir) (a : IorIdx) (v : Word) : (s.emitHw d a v).regs = s.regs := rfl
@[simp] theorem State.emitHw_pc (s : State) (d : TraceDir) (a : IorIdx) (v : Word) : (s.emitHw d a v).pc = s.pc := rfl
@[simp] theorem State.emitHw_imem (s : State) (d : TraceDir) (a : IorIdx) (v : Word) : (s.emitHw d a v).imem = s.imem := rfl
@[simp] theorem State.emitHw_dmem (s : State) (d : TraceDir) (a : IorIdx) (v : Word) : (s.emitHw d a v).dmem = s.dmem := rfl
@[simp] theorem State.emitHw_ior (s : State) (d : TraceDir) (a : IorIdx) (v : Word) : (s.emitHw d a v).ior = s.ior := rfl
@[simp] theorem State.emitHw_diskTimer (s : State) (d : TraceDir) (a : IorIdx) (v : Word) : (s.emitHw d a v).diskTimer = s.diskTimer := rfl
@[simp] theorem State.emitHw_issuedThisCycle (s : State) (d : TraceDir) (a : IorIdx) (v : Word) : (s.emitHw d a v).issuedThisCycle = s.issuedThisCycle := rfl
@[simp] theorem State.emitHw_schedPtr (s : State) (d : TraceDir) (a : IorIdx) (v : Word) : (s.emitHw d a v).schedPtr = s.schedPtr := rfl
@[simp] theorem State.emitHw_cycle (s : State) (d : TraceDir) (a : IorIdx) (v : Word) : (s.emitHw d a v).cycle = s.cycle := rfl
@[simp] theorem State.emitHw_runState (s : State) (d : TraceDir) (a : IorIdx) (v : Word) : (s.emitHw d a v).runState = s.runState := rfl
@[simp] theorem State.emitHw_disk (s : State) (d : TraceDir) (a : IorIdx) (v : Word) : (s.emitHw d a v).disk = s.disk := rfl
@[simp] theorem State.emitHw_fb (s : State) (d : TraceDir) (a : IorIdx) (v : Word) : (s.emitHw d a v).fb = s.fb := rfl
@[simp] theorem State.emitHw_readReg (s : State) (d : TraceDir) (a : IorIdx) (v : Word) (i : RegIdx) : (s.emitHw d a v).readReg i = s.readReg i := rfl
@[simp] theorem State.emitHw_getIor (s : State) (d : TraceDir) (a : IorIdx) (v : Word) (j : IorIdx) : (s.emitHw d a v).getIor j = s.getIor j := rfl
@[simp] theorem State.emitHw_readDmem (s : State) (d : TraceDir) (a : IorIdx) (v : Word) (y : Nat) : (s.emitHw d a v).readDmem y = s.readDmem y := rfl
@[simp] theorem State.emitHw_readDisk (s : State) (d : TraceDir) (a : IorIdx) (v : Word) (y z : Nat) : (s.emitHw d a v).readDisk y z = s.readDisk y z := rfl
@[simp] theorem State.emitHw_readFb (s : State) (d : TraceDir) (a : IorIdx) (v : Word) (y : Nat) : (s.emitHw d a v).readFb y = s.readFb y := rfl

/-! ### `emitLed` -/

@[simp] theorem State.emitLed_params (s : State) (v : Word) : (s.emitLed v).params = s.params := rfl
@[simp] theorem State.emitLed_regs (s : State) (v : Word) : (s.emitLed v).regs = s.regs := rfl
@[simp] theorem State.emitLed_pc (s : State) (v : Word) : (s.emitLed v).pc = s.pc := rfl
@[simp] theorem State.emitLed_imem (s : State) (v : Word) : (s.emitLed v).imem = s.imem := rfl
@[simp] theorem State.emitLed_dmem (s : State) (v : Word) : (s.emitLed v).dmem = s.dmem := rfl
@[simp] theorem State.emitLed_ior (s : State) (v : Word) : (s.emitLed v).ior = s.ior := rfl
@[simp] theorem State.emitLed_diskTimer (s : State) (v : Word) : (s.emitLed v).diskTimer = s.diskTimer := rfl
@[simp] theorem State.emitLed_issuedThisCycle (s : State) (v : Word) : (s.emitLed v).issuedThisCycle = s.issuedThisCycle := rfl
@[simp] theorem State.emitLed_schedPtr (s : State) (v : Word) : (s.emitLed v).schedPtr = s.schedPtr := rfl
@[simp] theorem State.emitLed_cycle (s : State) (v : Word) : (s.emitLed v).cycle = s.cycle := rfl
@[simp] theorem State.emitLed_runState (s : State) (v : Word) : (s.emitLed v).runState = s.runState := rfl
@[simp] theorem State.emitLed_disk (s : State) (v : Word) : (s.emitLed v).disk = s.disk := rfl
@[simp] theorem State.emitLed_fb (s : State) (v : Word) : (s.emitLed v).fb = s.fb := rfl
@[simp] theorem State.emitLed_readReg (s : State) (v : Word) (i : RegIdx) : (s.emitLed v).readReg i = s.readReg i := rfl
@[simp] theorem State.emitLed_getIor (s : State) (v : Word) (j : IorIdx) : (s.emitLed v).getIor j = s.getIor j := rfl
@[simp] theorem State.emitLed_readDmem (s : State) (v : Word) (y : Nat) : (s.emitLed v).readDmem y = s.readDmem y := rfl
@[simp] theorem State.emitLed_readDisk (s : State) (v : Word) (y z : Nat) : (s.emitLed v).readDisk y z = s.readDisk y z := rfl
@[simp] theorem State.emitLed_readFb (s : State) (v : Word) (y : Nat) : (s.emitLed v).readFb y = s.readFb y := rfl

/-! ### `emitSeg` -/

@[simp] theorem State.emitSeg_params (s : State) (v : Word) : (s.emitSeg v).params = s.params := rfl
@[simp] theorem State.emitSeg_regs (s : State) (v : Word) : (s.emitSeg v).regs = s.regs := rfl
@[simp] theorem State.emitSeg_pc (s : State) (v : Word) : (s.emitSeg v).pc = s.pc := rfl
@[simp] theorem State.emitSeg_imem (s : State) (v : Word) : (s.emitSeg v).imem = s.imem := rfl
@[simp] theorem State.emitSeg_dmem (s : State) (v : Word) : (s.emitSeg v).dmem = s.dmem := rfl
@[simp] theorem State.emitSeg_ior (s : State) (v : Word) : (s.emitSeg v).ior = s.ior := rfl
@[simp] theorem State.emitSeg_diskTimer (s : State) (v : Word) : (s.emitSeg v).diskTimer = s.diskTimer := rfl
@[simp] theorem State.emitSeg_issuedThisCycle (s : State) (v : Word) : (s.emitSeg v).issuedThisCycle = s.issuedThisCycle := rfl
@[simp] theorem State.emitSeg_schedPtr (s : State) (v : Word) : (s.emitSeg v).schedPtr = s.schedPtr := rfl
@[simp] theorem State.emitSeg_cycle (s : State) (v : Word) : (s.emitSeg v).cycle = s.cycle := rfl
@[simp] theorem State.emitSeg_runState (s : State) (v : Word) : (s.emitSeg v).runState = s.runState := rfl
@[simp] theorem State.emitSeg_disk (s : State) (v : Word) : (s.emitSeg v).disk = s.disk := rfl
@[simp] theorem State.emitSeg_fb (s : State) (v : Word) : (s.emitSeg v).fb = s.fb := rfl
@[simp] theorem State.emitSeg_readReg (s : State) (v : Word) (i : RegIdx) : (s.emitSeg v).readReg i = s.readReg i := rfl
@[simp] theorem State.emitSeg_getIor (s : State) (v : Word) (j : IorIdx) : (s.emitSeg v).getIor j = s.getIor j := rfl
@[simp] theorem State.emitSeg_readDmem (s : State) (v : Word) (y : Nat) : (s.emitSeg v).readDmem y = s.readDmem y := rfl
@[simp] theorem State.emitSeg_readDisk (s : State) (v : Word) (y z : Nat) : (s.emitSeg v).readDisk y z = s.readDisk y z := rfl
@[simp] theorem State.emitSeg_readFb (s : State) (v : Word) (y : Nat) : (s.emitSeg v).readFb y = s.readFb y := rfl

/-! ### `report` -/

@[simp] theorem State.report_params (s : State) (k : ErrorKind) (v : Word) : (s.report k v).params = s.params := rfl
@[simp] theorem State.report_regs (s : State) (k : ErrorKind) (v : Word) : (s.report k v).regs = s.regs := rfl
@[simp] theorem State.report_pc (s : State) (k : ErrorKind) (v : Word) : (s.report k v).pc = s.pc := rfl
@[simp] theorem State.report_imem (s : State) (k : ErrorKind) (v : Word) : (s.report k v).imem = s.imem := rfl
@[simp] theorem State.report_dmem (s : State) (k : ErrorKind) (v : Word) : (s.report k v).dmem = s.dmem := rfl
@[simp] theorem State.report_ior (s : State) (k : ErrorKind) (v : Word) : (s.report k v).ior = s.ior := rfl
@[simp] theorem State.report_diskTimer (s : State) (k : ErrorKind) (v : Word) : (s.report k v).diskTimer = s.diskTimer := rfl
@[simp] theorem State.report_issuedThisCycle (s : State) (k : ErrorKind) (v : Word) : (s.report k v).issuedThisCycle = s.issuedThisCycle := rfl
@[simp] theorem State.report_schedPtr (s : State) (k : ErrorKind) (v : Word) : (s.report k v).schedPtr = s.schedPtr := rfl
@[simp] theorem State.report_cycle (s : State) (k : ErrorKind) (v : Word) : (s.report k v).cycle = s.cycle := rfl
@[simp] theorem State.report_runState (s : State) (k : ErrorKind) (v : Word) : (s.report k v).runState = s.runState := rfl
@[simp] theorem State.report_disk (s : State) (k : ErrorKind) (v : Word) : (s.report k v).disk = s.disk := rfl
@[simp] theorem State.report_fb (s : State) (k : ErrorKind) (v : Word) : (s.report k v).fb = s.fb := rfl
@[simp] theorem State.report_readReg (s : State) (k : ErrorKind) (v : Word) (i : RegIdx) : (s.report k v).readReg i = s.readReg i := rfl
@[simp] theorem State.report_getIor (s : State) (k : ErrorKind) (v : Word) (j : IorIdx) : (s.report k v).getIor j = s.getIor j := rfl
@[simp] theorem State.report_readDmem (s : State) (k : ErrorKind) (v : Word) (y : Nat) : (s.report k v).readDmem y = s.readDmem y := rfl
@[simp] theorem State.report_readDisk (s : State) (k : ErrorKind) (v : Word) (y z : Nat) : (s.report k v).readDisk y z = s.readDisk y z := rfl
@[simp] theorem State.report_readFb (s : State) (k : ErrorKind) (v : Word) (y : Nat) : (s.report k v).readFb y = s.readFb y := rfl

/-! ### `raiseFault` -/

@[simp] theorem State.raiseFault_params (s : State) (f : FaultRecord) : (s.raiseFault f).params = s.params := rfl
@[simp] theorem State.raiseFault_regs (s : State) (f : FaultRecord) : (s.raiseFault f).regs = s.regs := rfl
@[simp] theorem State.raiseFault_pc (s : State) (f : FaultRecord) : (s.raiseFault f).pc = s.pc := rfl
@[simp] theorem State.raiseFault_imem (s : State) (f : FaultRecord) : (s.raiseFault f).imem = s.imem := rfl
@[simp] theorem State.raiseFault_dmem (s : State) (f : FaultRecord) : (s.raiseFault f).dmem = s.dmem := rfl
@[simp] theorem State.raiseFault_ior (s : State) (f : FaultRecord) : (s.raiseFault f).ior = s.ior := rfl
@[simp] theorem State.raiseFault_diskTimer (s : State) (f : FaultRecord) : (s.raiseFault f).diskTimer = s.diskTimer := rfl
@[simp] theorem State.raiseFault_issuedThisCycle (s : State) (f : FaultRecord) : (s.raiseFault f).issuedThisCycle = s.issuedThisCycle := rfl
@[simp] theorem State.raiseFault_schedPtr (s : State) (f : FaultRecord) : (s.raiseFault f).schedPtr = s.schedPtr := rfl
@[simp] theorem State.raiseFault_cycle (s : State) (f : FaultRecord) : (s.raiseFault f).cycle = s.cycle := rfl
@[simp] theorem State.raiseFault_runState (s : State) (f : FaultRecord) : (s.raiseFault f).runState = .faulted f := rfl
@[simp] theorem State.raiseFault_disk (s : State) (f : FaultRecord) : (s.raiseFault f).disk = s.disk := rfl
@[simp] theorem State.raiseFault_fb (s : State) (f : FaultRecord) : (s.raiseFault f).fb = s.fb := rfl
@[simp] theorem State.raiseFault_obs (s : State) (f : FaultRecord) : (s.raiseFault f).obs = s.obs := rfl
@[simp] theorem State.raiseFault_readReg (s : State) (f : FaultRecord) (i : RegIdx) : (s.raiseFault f).readReg i = s.readReg i := rfl
@[simp] theorem State.raiseFault_getIor (s : State) (f : FaultRecord) (j : IorIdx) : (s.raiseFault f).getIor j = s.getIor j := rfl
@[simp] theorem State.raiseFault_readDmem (s : State) (f : FaultRecord) (y : Nat) : (s.raiseFault f).readDmem y = s.readDmem y := rfl
@[simp] theorem State.raiseFault_readDisk (s : State) (f : FaultRecord) (y z : Nat) : (s.raiseFault f).readDisk y z = s.readDisk y z := rfl
@[simp] theorem State.raiseFault_readFb (s : State) (f : FaultRecord) (y : Nat) : (s.raiseFault f).readFb y = s.readFb y := rfl

/-! ### `ioAddressError` -/

@[simp] theorem State.ioAddressError_params (s : State) (v : Word) : (s.ioAddressError v).params = s.params := rfl
@[simp] theorem State.ioAddressError_regs (s : State) (v : Word) : (s.ioAddressError v).regs = s.regs := rfl
@[simp] theorem State.ioAddressError_pc (s : State) (v : Word) : (s.ioAddressError v).pc = s.pc + 1 := rfl
@[simp] theorem State.ioAddressError_imem (s : State) (v : Word) : (s.ioAddressError v).imem = s.imem := rfl
@[simp] theorem State.ioAddressError_dmem (s : State) (v : Word) : (s.ioAddressError v).dmem = s.dmem := rfl
@[simp] theorem State.ioAddressError_ior (s : State) (v : Word) : (s.ioAddressError v).ior = s.ior := rfl
@[simp] theorem State.ioAddressError_diskTimer (s : State) (v : Word) : (s.ioAddressError v).diskTimer = s.diskTimer := rfl
@[simp] theorem State.ioAddressError_issuedThisCycle (s : State) (v : Word) : (s.ioAddressError v).issuedThisCycle = s.issuedThisCycle := rfl
@[simp] theorem State.ioAddressError_schedPtr (s : State) (v : Word) : (s.ioAddressError v).schedPtr = s.schedPtr := rfl
@[simp] theorem State.ioAddressError_cycle (s : State) (v : Word) : (s.ioAddressError v).cycle = s.cycle := rfl
@[simp] theorem State.ioAddressError_runState (s : State) (v : Word) : (s.ioAddressError v).runState = s.runState := rfl
@[simp] theorem State.ioAddressError_disk (s : State) (v : Word) : (s.ioAddressError v).disk = s.disk := rfl
@[simp] theorem State.ioAddressError_fb (s : State) (v : Word) : (s.ioAddressError v).fb = s.fb := rfl
@[simp] theorem State.ioAddressError_readReg (s : State) (v : Word) (i : RegIdx) : (s.ioAddressError v).readReg i = s.readReg i := rfl
@[simp] theorem State.ioAddressError_getIor (s : State) (v : Word) (j : IorIdx) : (s.ioAddressError v).getIor j = s.getIor j := rfl
@[simp] theorem State.ioAddressError_readDmem (s : State) (v : Word) (y : Nat) : (s.ioAddressError v).readDmem y = s.readDmem y := rfl
@[simp] theorem State.ioAddressError_readDisk (s : State) (v : Word) (y z : Nat) : (s.ioAddressError v).readDisk y z = s.readDisk y z := rfl
@[simp] theorem State.ioAddressError_readFb (s : State) (v : Word) (y : Nat) : (s.ioAddressError v).readFb y = s.readFb y := rfl

/-! ### `clearIfContributing` -/

@[simp] theorem State.clearIfContributing_params (s : State) (a : IorIdx) (c : Word) : (s.clearIfContributing a c).params = s.params := rfl
@[simp] theorem State.clearIfContributing_regs (s : State) (a : IorIdx) (c : Word) : (s.clearIfContributing a c).regs = s.regs := rfl
@[simp] theorem State.clearIfContributing_pc (s : State) (a : IorIdx) (c : Word) : (s.clearIfContributing a c).pc = s.pc := rfl
@[simp] theorem State.clearIfContributing_imem (s : State) (a : IorIdx) (c : Word) : (s.clearIfContributing a c).imem = s.imem := rfl
@[simp] theorem State.clearIfContributing_dmem (s : State) (a : IorIdx) (c : Word) : (s.clearIfContributing a c).dmem = s.dmem := rfl
@[simp] theorem State.clearIfContributing_diskTimer (s : State) (a : IorIdx) (c : Word) : (s.clearIfContributing a c).diskTimer = s.diskTimer := rfl
@[simp] theorem State.clearIfContributing_issuedThisCycle (s : State) (a : IorIdx) (c : Word) : (s.clearIfContributing a c).issuedThisCycle = s.issuedThisCycle := rfl
@[simp] theorem State.clearIfContributing_schedPtr (s : State) (a : IorIdx) (c : Word) : (s.clearIfContributing a c).schedPtr = s.schedPtr := rfl
@[simp] theorem State.clearIfContributing_cycle (s : State) (a : IorIdx) (c : Word) : (s.clearIfContributing a c).cycle = s.cycle := rfl
@[simp] theorem State.clearIfContributing_runState (s : State) (a : IorIdx) (c : Word) : (s.clearIfContributing a c).runState = s.runState := rfl
@[simp] theorem State.clearIfContributing_disk (s : State) (a : IorIdx) (c : Word) : (s.clearIfContributing a c).disk = s.disk := rfl
@[simp] theorem State.clearIfContributing_fb (s : State) (a : IorIdx) (c : Word) : (s.clearIfContributing a c).fb = s.fb := rfl
@[simp] theorem State.clearIfContributing_obs (s : State) (a : IorIdx) (c : Word) : (s.clearIfContributing a c).obs = s.obs := rfl
@[simp] theorem State.clearIfContributing_readReg (s : State) (a : IorIdx) (c : Word) (i : RegIdx) : (s.clearIfContributing a c).readReg i = s.readReg i := rfl
@[simp] theorem State.clearIfContributing_readDmem (s : State) (a : IorIdx) (c : Word) (y : Nat) : (s.clearIfContributing a c).readDmem y = s.readDmem y := rfl
@[simp] theorem State.clearIfContributing_readDisk (s : State) (a : IorIdx) (c : Word) (y z : Nat) : (s.clearIfContributing a c).readDisk y z = s.readDisk y z := rfl
@[simp] theorem State.clearIfContributing_readFb (s : State) (a : IorIdx) (c : Word) (y : Nat) : (s.clearIfContributing a c).readFb y = s.readFb y := rfl

/-! ### `takeInterrupt` -/

@[simp] theorem State.takeInterrupt_params (s : State) : (s.takeInterrupt).params = s.params := rfl
@[simp] theorem State.takeInterrupt_regs (s : State) : (s.takeInterrupt).regs = s.regs := rfl
@[simp] theorem State.takeInterrupt_pc (s : State) : (s.takeInterrupt).pc = s.handlerPc := rfl
@[simp] theorem State.takeInterrupt_imem (s : State) : (s.takeInterrupt).imem = s.imem := rfl
@[simp] theorem State.takeInterrupt_dmem (s : State) : (s.takeInterrupt).dmem = s.dmem := rfl
@[simp] theorem State.takeInterrupt_diskTimer (s : State) : (s.takeInterrupt).diskTimer = s.diskTimer := rfl
@[simp] theorem State.takeInterrupt_issuedThisCycle (s : State) : (s.takeInterrupt).issuedThisCycle = s.issuedThisCycle := rfl
@[simp] theorem State.takeInterrupt_schedPtr (s : State) : (s.takeInterrupt).schedPtr = s.schedPtr := rfl
@[simp] theorem State.takeInterrupt_cycle (s : State) : (s.takeInterrupt).cycle = s.cycle := rfl
@[simp] theorem State.takeInterrupt_runState (s : State) : (s.takeInterrupt).runState = s.runState := rfl
@[simp] theorem State.takeInterrupt_disk (s : State) : (s.takeInterrupt).disk = s.disk := rfl
@[simp] theorem State.takeInterrupt_fb (s : State) : (s.takeInterrupt).fb = s.fb := rfl
@[simp] theorem State.takeInterrupt_obs (s : State) : (s.takeInterrupt).obs = s.obs := rfl
@[simp] theorem State.takeInterrupt_readReg (s : State) (i : RegIdx) : (s.takeInterrupt).readReg i = s.readReg i := rfl
@[simp] theorem State.takeInterrupt_readDmem (s : State) (y : Nat) : (s.takeInterrupt).readDmem y = s.readDmem y := rfl
@[simp] theorem State.takeInterrupt_readDisk (s : State) (y z : Nat) : (s.takeInterrupt).readDisk y z = s.readDisk y z := rfl
@[simp] theorem State.takeInterrupt_readFb (s : State) (y : Nat) : (s.takeInterrupt).readFb y = s.readFb y := rfl

/-! ### `returnFromInterrupt` -/

@[simp] theorem State.returnFromInterrupt_params (s : State) : (s.returnFromInterrupt).params = s.params := rfl
@[simp] theorem State.returnFromInterrupt_regs (s : State) : (s.returnFromInterrupt).regs = s.regs := rfl
@[simp] theorem State.returnFromInterrupt_pc (s : State) : (s.returnFromInterrupt).pc = s.returnPc := rfl
@[simp] theorem State.returnFromInterrupt_imem (s : State) : (s.returnFromInterrupt).imem = s.imem := rfl
@[simp] theorem State.returnFromInterrupt_dmem (s : State) : (s.returnFromInterrupt).dmem = s.dmem := rfl
@[simp] theorem State.returnFromInterrupt_ior (s : State) : (s.returnFromInterrupt).ior = s.ior := rfl
@[simp] theorem State.returnFromInterrupt_diskTimer (s : State) : (s.returnFromInterrupt).diskTimer = s.diskTimer := rfl
@[simp] theorem State.returnFromInterrupt_issuedThisCycle (s : State) : (s.returnFromInterrupt).issuedThisCycle = s.issuedThisCycle := rfl
@[simp] theorem State.returnFromInterrupt_schedPtr (s : State) : (s.returnFromInterrupt).schedPtr = s.schedPtr := rfl
@[simp] theorem State.returnFromInterrupt_cycle (s : State) : (s.returnFromInterrupt).cycle = s.cycle := rfl
@[simp] theorem State.returnFromInterrupt_runState (s : State) : (s.returnFromInterrupt).runState = s.runState := rfl
@[simp] theorem State.returnFromInterrupt_disk (s : State) : (s.returnFromInterrupt).disk = s.disk := rfl
@[simp] theorem State.returnFromInterrupt_fb (s : State) : (s.returnFromInterrupt).fb = s.fb := rfl
@[simp] theorem State.returnFromInterrupt_obs (s : State) : (s.returnFromInterrupt).obs = s.obs := rfl
@[simp] theorem State.returnFromInterrupt_readReg (s : State) (i : RegIdx) : (s.returnFromInterrupt).readReg i = s.readReg i := rfl
@[simp] theorem State.returnFromInterrupt_getIor (s : State) (j : IorIdx) : (s.returnFromInterrupt).getIor j = s.getIor j := rfl
@[simp] theorem State.returnFromInterrupt_readDmem (s : State) (y : Nat) : (s.returnFromInterrupt).readDmem y = s.readDmem y := rfl
@[simp] theorem State.returnFromInterrupt_readDisk (s : State) (y z : Nat) : (s.returnFromInterrupt).readDisk y z = s.readDisk y z := rfl
@[simp] theorem State.returnFromInterrupt_readFb (s : State) (y : Nat) : (s.returnFromInterrupt).readFb y = s.readFb y := rfl

/-! ### `monitorCommit` -/

@[simp] theorem State.monitorCommit_params (s : State) : (s.monitorCommit).params = s.params := rfl
@[simp] theorem State.monitorCommit_regs (s : State) : (s.monitorCommit).regs = s.regs := rfl
@[simp] theorem State.monitorCommit_pc (s : State) : (s.monitorCommit).pc = s.pc := rfl
@[simp] theorem State.monitorCommit_imem (s : State) : (s.monitorCommit).imem = s.imem := rfl
@[simp] theorem State.monitorCommit_dmem (s : State) : (s.monitorCommit).dmem = s.dmem := rfl
@[simp] theorem State.monitorCommit_ior (s : State) : (s.monitorCommit).ior = s.ior := rfl
@[simp] theorem State.monitorCommit_diskTimer (s : State) : (s.monitorCommit).diskTimer = s.diskTimer := rfl
@[simp] theorem State.monitorCommit_issuedThisCycle (s : State) : (s.monitorCommit).issuedThisCycle = s.issuedThisCycle := rfl
@[simp] theorem State.monitorCommit_schedPtr (s : State) : (s.monitorCommit).schedPtr = s.schedPtr := rfl
@[simp] theorem State.monitorCommit_cycle (s : State) : (s.monitorCommit).cycle = s.cycle := rfl
@[simp] theorem State.monitorCommit_runState (s : State) : (s.monitorCommit).runState = s.runState := rfl
@[simp] theorem State.monitorCommit_disk (s : State) : (s.monitorCommit).disk = s.disk := rfl
@[simp] theorem State.monitorCommit_obs (s : State) : (s.monitorCommit).obs = s.obs := rfl
@[simp] theorem State.monitorCommit_readReg (s : State) (i : RegIdx) : (s.monitorCommit).readReg i = s.readReg i := rfl
@[simp] theorem State.monitorCommit_getIor (s : State) (j : IorIdx) : (s.monitorCommit).getIor j = s.getIor j := rfl
@[simp] theorem State.monitorCommit_readDmem (s : State) (y : Nat) : (s.monitorCommit).readDmem y = s.readDmem y := rfl
@[simp] theorem State.monitorCommit_readDisk (s : State) (y z : Nat) : (s.monitorCommit).readDisk y z = s.readDisk y z := rfl

/-! ### `dmaCopy` -/

@[simp] theorem State.dmaCopy_params (s : State) (v : Word) : (s.dmaCopy v).params = s.params := rfl
@[simp] theorem State.dmaCopy_regs (s : State) (v : Word) : (s.dmaCopy v).regs = s.regs := rfl
@[simp] theorem State.dmaCopy_pc (s : State) (v : Word) : (s.dmaCopy v).pc = s.pc := rfl
@[simp] theorem State.dmaCopy_imem (s : State) (v : Word) : (s.dmaCopy v).imem = s.imem := rfl
@[simp] theorem State.dmaCopy_ior (s : State) (v : Word) : (s.dmaCopy v).ior = s.ior := rfl
@[simp] theorem State.dmaCopy_diskTimer (s : State) (v : Word) : (s.dmaCopy v).diskTimer = s.diskTimer := rfl
@[simp] theorem State.dmaCopy_issuedThisCycle (s : State) (v : Word) : (s.dmaCopy v).issuedThisCycle = s.issuedThisCycle := rfl
@[simp] theorem State.dmaCopy_schedPtr (s : State) (v : Word) : (s.dmaCopy v).schedPtr = s.schedPtr := rfl
@[simp] theorem State.dmaCopy_cycle (s : State) (v : Word) : (s.dmaCopy v).cycle = s.cycle := rfl
@[simp] theorem State.dmaCopy_runState (s : State) (v : Word) : (s.dmaCopy v).runState = s.runState := rfl
@[simp] theorem State.dmaCopy_fb (s : State) (v : Word) : (s.dmaCopy v).fb = s.fb := rfl
@[simp] theorem State.dmaCopy_obs (s : State) (v : Word) : (s.dmaCopy v).obs = s.obs := rfl
@[simp] theorem State.dmaCopy_readReg (s : State) (v : Word) (i : RegIdx) : (s.dmaCopy v).readReg i = s.readReg i := rfl
@[simp] theorem State.dmaCopy_getIor (s : State) (v : Word) (j : IorIdx) : (s.dmaCopy v).getIor j = s.getIor j := rfl
@[simp] theorem State.dmaCopy_readFb (s : State) (v : Word) (y : Nat) : (s.dmaCopy v).readFb y = s.readFb y := rfl

/-! ### `storeSlot` -/

@[simp] theorem State.storeSlot_params (s : State) (w : Slot) : (s.storeSlot w).params = s.params := rfl
@[simp] theorem State.storeSlot_regs (s : State) (w : Slot) : (s.storeSlot w).regs = s.regs := rfl
@[simp] theorem State.storeSlot_pc (s : State) (w : Slot) : (s.storeSlot w).pc = s.pc := rfl
@[simp] theorem State.storeSlot_imem (s : State) (w : Slot) : (s.storeSlot w).imem = s.imem.write s.pc.toNat w := rfl
@[simp] theorem State.storeSlot_dmem (s : State) (w : Slot) : (s.storeSlot w).dmem = s.dmem := rfl
@[simp] theorem State.storeSlot_ior (s : State) (w : Slot) : (s.storeSlot w).ior = s.ior := rfl
@[simp] theorem State.storeSlot_diskTimer (s : State) (w : Slot) : (s.storeSlot w).diskTimer = s.diskTimer := rfl
@[simp] theorem State.storeSlot_issuedThisCycle (s : State) (w : Slot) : (s.storeSlot w).issuedThisCycle = s.issuedThisCycle := rfl
@[simp] theorem State.storeSlot_schedPtr (s : State) (w : Slot) : (s.storeSlot w).schedPtr = s.schedPtr := rfl
@[simp] theorem State.storeSlot_cycle (s : State) (w : Slot) : (s.storeSlot w).cycle = s.cycle := rfl
@[simp] theorem State.storeSlot_runState (s : State) (w : Slot) : (s.storeSlot w).runState = s.runState := rfl
@[simp] theorem State.storeSlot_disk (s : State) (w : Slot) : (s.storeSlot w).disk = s.disk := rfl
@[simp] theorem State.storeSlot_fb (s : State) (w : Slot) : (s.storeSlot w).fb = s.fb := rfl
@[simp] theorem State.storeSlot_obs (s : State) (w : Slot) : (s.storeSlot w).obs = s.obs := rfl
@[simp] theorem State.storeSlot_readReg (s : State) (w : Slot) (i : RegIdx) : (s.storeSlot w).readReg i = s.readReg i := rfl
@[simp] theorem State.storeSlot_getIor (s : State) (w : Slot) (j : IorIdx) : (s.storeSlot w).getIor j = s.getIor j := rfl
@[simp] theorem State.storeSlot_readDmem (s : State) (w : Slot) (y : Nat) : (s.storeSlot w).readDmem y = s.readDmem y := rfl
@[simp] theorem State.storeSlot_readDisk (s : State) (w : Slot) (y z : Nat) : (s.storeSlot w).readDisk y z = s.readDisk y z := rfl
@[simp] theorem State.storeSlot_readFb (s : State) (w : Slot) (y : Nat) : (s.storeSlot w).readFb y = s.readFb y := rfl

end Sys2Proof.Machine
end

