-- ==== Sys2Proof/Laws/Ops.lean ====
section
/-!
SUPPORT. One lemma for each shared operation that says once what it can do.
-/

namespace Sys2Proof.Machine

/-! ### General registers -/

theorem State.isHardwired_iff (s : State) (r : RegIdx) :
    s.isHardwired r = true ↔ r = 0 ∧ s.params.zeroRegHardwired = true := by
  simp [State.isHardwired, and_comm]

/-- A register read after a register write (R10, R11). -/
theorem State.readReg_writeReg (s : State) (r i : RegIdx) (v : Word) :
    (s.writeReg r v).readReg i = if i = r ∧ s.isHardwired r = false then v else s.readReg i := by
  have hp : (s.writeReg r v).isHardwired i = s.isHardwired i := rfl
  have hr : (s.writeReg r v).regs = if s.isHardwired r then s.regs else s.regs.set r.toNat v := rfl
  unfold State.readReg
  simp only [hp, hr]
  by_cases hi : i = r
  · subst hi
    by_cases h : s.isHardwired i = true <;> simp [h]
  · have hn : ¬ r.toNat = i.toNat := fun h => hi (BitVec.eq_of_toNat_eq h.symm)
    by_cases h : s.isHardwired r = true <;> simp [h, hi, hn]

/-- A register read after the decode-time writes (R124): registers 1 and 2 hold the immediates. -/
theorem State.readReg_loadImmediates (s : State) (a b : Imm) (i : RegIdx) :
    (s.loadImmediates a b).readReg i = if i = 1#4 then sext32 a else if i = 2#4 then sext32 b else s.readReg i := by
  have hp : (s.loadImmediates a b).isHardwired i = s.isHardwired i := rfl
  have hr : (s.loadImmediates a b).regs = (s.regs.set 1 (sext32 a)).set 2 (sext32 b) := rfl
  unfold State.readReg
  simp only [hp, hr]
  by_cases h1 : i = 1#4
  · subst h1; simp [State.isHardwired]
  · by_cases h2 : i = 2#4
    · subst h2; simp [State.isHardwired]
    · have n1 : ¬ 1 = i.toNat := fun h => h1 (BitVec.eq_of_toNat_eq (by simpa using h.symm))
      have n2 : ¬ 2 = i.toNat := fun h => h2 (BitVec.eq_of_toNat_eq (by simpa using h.symm))
      simp [h1, h2, n1, n2]

/-- The trace's snapshot holds what a read of each register gives (R271). -/
theorem State.regSnapshot_getElem (s : State) (i : RegIdx) : s.regSnapshot[i.toNat] = s.readReg i := by
  unfold State.regSnapshot State.readReg State.isHardwired
  by_cases h : s.params.zeroRegHardwired = true
  · by_cases hi : i = 0#4
    · subst hi; simp [h]
    · have : ¬ 0 = i.toNat := fun k => hi (BitVec.eq_of_toNat_eq (by simpa using k.symm))
      simp [h, hi, this]
  · simp [h]

/-! ### The I/O bank -/

/-- A bare I/O read after a bare I/O write. -/
@[simp] theorem State.getIor_setIor (s : State) (a b : IorIdx) (v : Word) :
    (s.setIor a v).getIor b = if b = a then v else s.getIor b := by
  unfold State.getIor State.setIor
  simp [Vector.getElem_set, Fin.ext_iff, eq_comm]

/-- A bare I/O read after the conditional clear of an interrupt entry (R233). -/
theorem State.getIor_clearIfContributing (s : State) (a b : IorIdx) (c : Word) :
    (s.clearIfContributing a c).getIor b = if b = a ∧ c ≠ 0 then 0 else s.getIor b := by
  unfold State.clearIfContributing
  by_cases h : b = a <;> by_cases hc : c = 0 <;> simp [h, hc]

/-- The I/O range check (R201) names the word with the address's own number. -/
theorem ioSlot_eq_some {v : Word} {a : IorIdx} : ioSlot v = some a ↔ v.toNat = a.val := by
  unfold ioSlot
  split
  · next h => simp [Fin.ext_iff]
  · next h => simp; omega

theorem ioSlot_eq_none {v : Word} : ioSlot v = none ↔ 22 < v.toNat := by
  unfold ioSlot
  split
  · next h => simp; omega
  · next h => simp; omega

/-! ### Program counter -/

/-- The next pc as a number (10_state.md R26). -/
theorem State.nextPc_toNat (s : State) : s.nextPc.toNat = (s.pc.toNat + 1) % 4096 := by
  simp [State.nextPc, BitVec.toNat_add]

/-- The low 12 bits as a number (42_branch_jump.md R178). -/
theorem low12_toNat (v : Word) : (low12 v).toNat = v.toNat % 4096 := by
  simp [low12]

theorem low12_zext32 (t : PcWord) : low12 (zext32 t) = t := by
  apply BitVec.eq_of_toNat_eq
  have := t.isLt
  simp only [low12, zext32, BitVec.toNat_setWidth]
  omega

/-! ### Interrupts -/

/-- What each word of the bank is after an interrupt entry (R233). -/
theorem State.getIor_takeInterrupt (s : State) (b : IorIdx) :
    s.takeInterrupt.getIor b =
      if b = Ior.irqreturn then zext32 s.pc
      else if (b = Ior.irq0status ∧ s.contribution Ior.irq0enable Ior.irq0status ≠ 0) ∨
        (b = Ior.irq1status ∧ s.contribution Ior.irq1enable Ior.irq1status ≠ 0) ∨
        (b = Ior.irq2status ∧ s.contribution Ior.irq2enable Ior.irq2status ≠ 0) then 0
      else s.getIor b := by
  unfold State.takeInterrupt
  simp only [State.getIor_clearIfContributing, State.setPc_getIor, State.getIor_setIor]
  by_cases h7 : b = Ior.irqreturn
  · subst h7; simp
  · by_cases h3 : b = Ior.irq0status
    · subst h3; by_cases h : s.contribution Ior.irq0enable Ior.irq0status = 0 <;> simp [h]
    · by_cases h4 : b = Ior.irq1status
      · subst h4; by_cases h : s.contribution Ior.irq1enable Ior.irq1status = 0 <;> simp [h]
      · by_cases h5 : b = Ior.irq2status
        · subst h5; by_cases h : s.contribution Ior.irq2enable Ior.irq2status = 0 <;> simp [h]
        · simp [h7, h3, h4, h5]

/-- Phase P10 takes the interrupt or changes nothing (R230, R232). -/
theorem State.interruptStep_cases (s : State) :
    (s.interruptLine ≠ 0 ∧ s.pc ≠ s.handlerPc ∧ s.interruptStep = s.takeInterrupt) ∨
      ((s.interruptLine = 0 ∨ s.pc = s.handlerPc) ∧ s.interruptStep = s) := by
  by_cases h : s.interruptLine ≠ 0 ∧ s.guardHolds = false
  · exact .inl ⟨h.1, by simpa [State.guardHolds] using h.2, if_pos h⟩
  · refine .inr ⟨?_, if_neg h⟩
    by_cases g : s.pc = s.handlerPc
    · exact .inr g
    · exact .inl (by_contra fun k => h ⟨k, by simpa [State.guardHolds] using g⟩)

/-! ### Devices -/

/-- Phase P7 pulses or changes nothing (R129). -/
theorem State.externalStep_cases (s : State) :
    (s.params.irq2Schedule[s.schedPtr]? = some s.cycle ∧
        s.externalStep = (s.setIor Ior.irq2status 1).setSchedPtr (s.schedPtr + 1)) ∨
      (s.params.irq2Schedule[s.schedPtr]? ≠ some s.cycle ∧ s.externalStep = s) := by
  unfold State.externalStep
  by_cases h : s.params.irq2Schedule[s.schedPtr]? = some s.cycle <;> simp [h]

/-- Phase P8 completes a command, counts, or only drops the mark of an issue (R257). -/
theorem State.diskStep_cases (s : State) :
    (s.diskCounts = true ∧ s.diskTimer = 1 ∧
        s.diskStep = ((s.setIssued false).setDiskTimer 0).diskComplete) ∨
      (s.diskCounts = true ∧ s.diskTimer ≠ 1 ∧ s.diskStep = (s.setIssued false).setDiskTimer (s.diskTimer - 1)) ∨
      (s.diskCounts = false ∧ s.diskStep = s.setIssued false) := by
  unfold State.diskStep
  by_cases h : s.diskCounts = true
  · have h0 : s.diskTimer ≠ 0 := by
      simp only [State.diskCounts, Bool.and_eq_true, bne_iff_ne, ne_eq] at h; exact h.1
    by_cases h1 : s.diskTimer = 1
    · simp [h, h1]
    · have : ¬ s.diskTimer - 1 = 0 := by omega
      simp [h, h1, this]
  · simp [h]

/-- Phase P9 fires, counts, or changes nothing (R250). -/
theorem State.timerStep_cases (s : State) :
    (s.getIor Ior.timerenable = 1 ∧ s.getIor Ior.timercurrent + 1 = s.getIor Ior.timermax ∧
        s.timerStep = (s.setIor Ior.irq0status 1).setIor Ior.timercurrent 0) ∨
      (s.getIor Ior.timerenable = 1 ∧ s.getIor Ior.timercurrent + 1 ≠ s.getIor Ior.timermax ∧
        s.timerStep = s.setIor Ior.timercurrent (s.getIor Ior.timercurrent + 1)) ∨
      (s.getIor Ior.timerenable ≠ 1 ∧ s.timerStep = s) := by
  by_cases h : s.getIor Ior.timerenable = 1
  · by_cases h2 : s.getIor Ior.timercurrent + 1 = s.getIor Ior.timermax
    · exact .inl ⟨h, h2, by rw [State.timerStep, if_pos h, if_pos h2]⟩
    · exact .inr (.inl ⟨h, h2, by rw [State.timerStep, if_pos h, if_neg h2]⟩)
  · exact .inr (.inr ⟨h, if_neg h⟩)

/-- A disk command launches, faults, or is only stored (R226, R256). -/
theorem State.dmaIssue_cases (s : State) (v : Word) :
    (s.dmaLaunches v = true ∧ s.dmaOutOfRange = true ∧
        s.dmaIssue v =
          .raised (s.raiseFault (.dmaRangeFault s.pc (s.getIor Ior.disksector) (s.getIor Ior.diskbuffer)))) ∨
      (s.dmaLaunches v = true ∧ s.dmaOutOfRange = false ∧
        s.dmaIssue v =
          .completed ((((s.dmaCopy v).setIor Ior.diskstatus 1).setDiskTimer diskLatency).setIssued true)) ∨
      (s.dmaLaunches v = false ∧ s.dmaIssue v = .completed s) := by
  unfold State.dmaIssue
  by_cases h : s.dmaLaunches v = true <;> by_cases g : s.dmaOutOfRange = true <;> simp [h, g]

theorem State.dmaLaunches_iff (s : State) (v : Word) :
    s.dmaLaunches v = true ↔ s.getIor Ior.diskstatus = 0 ∧ (v = 1 ∨ v = 2) := by
  simp [State.dmaLaunches]

theorem State.dmaOutOfRange_iff (s : State) :
    s.dmaOutOfRange = true ↔ 127 < (s.getIor Ior.disksector).toNat ∨ 3968 < (s.getIor Ior.diskbuffer).toNat := by
  simp [State.dmaOutOfRange]

/-- Data memory after the copy of a command (R256). -/
theorem State.dmaCopy_dmem (s : State) (v : Word) :
    (s.dmaCopy v).dmem =
      if v = 1 then Memory.copy s.disk s.dmem (diskAddr (s.getIor Ior.disksector).toNat 0) (s.getIor Ior.diskbuffer).toNat 128
      else s.dmem := rfl

/-- The disk after the copy of a command (R256). -/
theorem State.dmaCopy_disk (s : State) (v : Word) :
    (s.dmaCopy v).disk =
      if v = 2 then Memory.copy s.dmem s.disk (s.getIor Ior.diskbuffer).toNat (diskAddr (s.getIor Ior.disksector).toNat 0) 128
      else s.disk := rfl

/-- A copy in range keeps the canonical form of both memories (R226, R256). -/
theorem State.dmaCopy_wf {s : State} (v : Word) (hd : s.dmem.wf 4096 = true) (hk : s.disk.wf 16384 = true)
    (hr : s.dmaOutOfRange = false) : (s.dmaCopy v).dmem.wf 4096 = true ∧ (s.dmaCopy v).disk.wf 16384 = true := by
  simp only [State.dmaOutOfRange, Bool.or_eq_false_iff, decide_eq_false_iff_not] at hr
  rw [State.dmaCopy_dmem, State.dmaCopy_disk]
  constructor <;> split
  · exact Memory.copy_wf _ _ hd (by omega)
  · exact hd
  · exact Memory.copy_wf _ _ hk (by unfold diskAddr; omega)
  · exact hk

/-- The place of a pixel is the low 16 bits of the monitor address (R262). -/
theorem pixelAddr_eq (v : Word) : pixelAddr v = v.toNat % 65536 := by
  simp only [pixelAddr, BitVec.extractLsb'_toNat, Nat.shiftRight_eq_div_pow]
  omega

/-- An I/O write of the five kinds (R242, R247 to R249). -/
theorem State.ioWrite_cases (s : State) (a : IorIdx) (v : Word) :
    (a = Ior.leds ∧ s.ioWrite a v = .completed (((s.setIor a v).emitHw .write a v).emitLed v)) ∨
      (a = Ior.display7seg ∧ s.ioWrite a v = .completed (((s.setIor a v).emitHw .write a v).emitSeg v)) ∨
      (a = Ior.diskcmd ∧ s.ioWrite a v = ((s.setIor a v).emitHw .write a v).dmaIssue v) ∨
      (a = Ior.monitorcmd ∧ v = 1 ∧
        s.ioWrite a v = .completed ((s.setIor a v).emitHw .write a v).monitorCommit) ∨
      ((a = Ior.monitorcmd → v ≠ 1) ∧ a ≠ Ior.leds ∧ a ≠ Ior.display7seg ∧ a ≠ Ior.diskcmd ∧
        s.ioWrite a v = .completed ((s.setIor a v).emitHw .write a v)) := by
  unfold State.ioWrite
  by_cases h1 : a = Ior.leds
  · subst h1; simp
  · by_cases h2 : a = Ior.display7seg
    · subst h2; simp
    · by_cases h3 : a = Ior.diskcmd
      · subst h3; simp
      · by_cases h4 : a = Ior.monitorcmd
        · subst h4; by_cases hv : v = 1#32 <;> simp [hv]
        · simp [h1, h2, h3, h4]

/-! ### What the later phases leave alone (R24, R63, R120) -/

@[simp] theorem State.externalStep_frame (s : State) :
    s.externalStep.params = s.params ∧ s.externalStep.regs = s.regs ∧ s.externalStep.pc = s.pc ∧
      s.externalStep.imem = s.imem ∧ s.externalStep.dmem = s.dmem ∧ s.externalStep.disk = s.disk ∧
      s.externalStep.fb = s.fb ∧ s.externalStep.obs = s.obs ∧ s.externalStep.runState = s.runState ∧
      s.externalStep.cycle = s.cycle ∧ s.externalStep.diskTimer = s.diskTimer ∧
      s.externalStep.issuedThisCycle = s.issuedThisCycle := by
  rcases s.externalStep_cases with ⟨-, h⟩ | ⟨-, h⟩ <;> simp [h]

@[simp] theorem State.diskStep_frame (s : State) :
    s.diskStep.params = s.params ∧ s.diskStep.regs = s.regs ∧ s.diskStep.pc = s.pc ∧
      s.diskStep.imem = s.imem ∧ s.diskStep.dmem = s.dmem ∧ s.diskStep.disk = s.disk ∧
      s.diskStep.fb = s.fb ∧ s.diskStep.obs = s.obs ∧ s.diskStep.runState = s.runState ∧
      s.diskStep.cycle = s.cycle ∧ s.diskStep.schedPtr = s.schedPtr ∧ s.diskStep.issuedThisCycle = false := by
  rcases s.diskStep_cases with ⟨-, -, h⟩ | ⟨-, -, h⟩ | ⟨-, h⟩ <;> simp [h, State.diskComplete]

@[simp] theorem State.timerStep_frame (s : State) :
    s.timerStep.params = s.params ∧ s.timerStep.regs = s.regs ∧ s.timerStep.pc = s.pc ∧
      s.timerStep.imem = s.imem ∧ s.timerStep.dmem = s.dmem ∧ s.timerStep.disk = s.disk ∧
      s.timerStep.fb = s.fb ∧ s.timerStep.obs = s.obs ∧ s.timerStep.runState = s.runState ∧
      s.timerStep.cycle = s.cycle ∧ s.timerStep.schedPtr = s.schedPtr ∧ s.timerStep.diskTimer = s.diskTimer ∧
      s.timerStep.issuedThisCycle = s.issuedThisCycle := by
  rcases s.timerStep_cases with ⟨-, -, h⟩ | ⟨-, -, h⟩ | ⟨-, h⟩ <;> simp [h]

@[simp] theorem State.interruptStep_frame (s : State) :
    s.interruptStep.params = s.params ∧ s.interruptStep.regs = s.regs ∧
      s.interruptStep.imem = s.imem ∧ s.interruptStep.dmem = s.dmem ∧ s.interruptStep.disk = s.disk ∧
      s.interruptStep.fb = s.fb ∧ s.interruptStep.obs = s.obs ∧ s.interruptStep.runState = s.runState ∧
      s.interruptStep.cycle = s.cycle ∧ s.interruptStep.schedPtr = s.schedPtr ∧
      s.interruptStep.diskTimer = s.diskTimer ∧ s.interruptStep.issuedThisCycle = s.issuedThisCycle := by
  rcases s.interruptStep_cases with ⟨-, -, h⟩ | ⟨-, h⟩ <;> simp [h]

/-- Phases P7 to P11 touch no register, no memory, no stream and no run state, and count the cycle (R120, R133). -/
theorem State.endCycle_frame (s : State) :
    s.endCycle.params = s.params ∧ s.endCycle.regs = s.regs ∧ s.endCycle.imem = s.imem ∧
      s.endCycle.dmem = s.dmem ∧ s.endCycle.disk = s.disk ∧ s.endCycle.fb = s.fb ∧ s.endCycle.obs = s.obs ∧
      s.endCycle.runState = s.runState ∧ s.endCycle.cycle = s.cycle + 1 ∧ s.endCycle.issuedThisCycle = false := by
  simp [State.endCycle]

/-- The rest of a cycle, by the run state phase P6 left (R127, R222). -/
theorem State.finish_cases (s : State) :
    (s.runState = .running ∧ s.finish = s.endCycle) ∨ (s.runState ≠ .running ∧ s.finish = s) := by
  unfold State.finish
  cases h : s.runState <;> simp

/-! ### The step -/

/-- Every instruction answers a next state in every state. -/
theorem exec_next (i : Instr) (s : State) : ∃ t, exec i s = .next t := by
  cases i <;> exact ⟨_, rfl⟩

/-- What a step that answers a next state can have done (R120, R136). -/
theorem step_cases {s t : State} (h : step s = .next t) :
    (s.runState = .halted ∧ t = s) ∨
      (s.runState = .running ∧ ∃ e, decode s.params.opcodeMap s.fetch = .error e ∧
        t = s.prepared.raiseFault (.illegalOpcode s.pc s.fetch)) ∨
      (s.runState = .running ∧ ∃ i u, decode s.params.opcodeMap s.fetch = .ok i ∧
        exec i s.prepared = .next u ∧ t = u.finish) := by
  unfold step at h
  cases hr : s.runState with
  | halted => rw [hr] at h; simp_all
  | faulted f => rw [hr] at h; simp at h
  | running =>
    rw [hr] at h
    simp only [State.executeWord] at h
    have hp : s.prepared.params = s.params := rfl
    have hf : s.beginCycle.fetch = s.fetch := rfl
    have hpc : s.prepared.pc = s.pc := rfl
    rw [hp, hf, hpc] at h
    cases hd : decode s.params.opcodeMap s.fetch with
    | error e =>
      rw [hd] at h
      simp only [Host.Outcome.next.injEq] at h
      exact .inr (.inl ⟨rfl, e, rfl, h.symm⟩)
    | ok i =>
      rw [hd] at h
      obtain ⟨u, hu⟩ := exec_next i s.prepared
      simp only [hu, Host.Outcome.next.injEq] at h
      exact .inr (.inr ⟨rfl, i, u, rfl, hu, h.symm⟩)

end Sys2Proof.Machine
end

