-- ==== Sys2Proof/Laws/Exec.lean ====
section
/-!
SUPPORT. What an instruction can do, said once: the whole-machine rules are read from this inversion lemma.
-/

namespace Sys2Proof.Machine

/-- The store of an `out` and its trace event (R205). -/
abbrev State.stored (s : State) (a : IorIdx) (v : Word) : State := (s.setIor a v).emitHw .write a v

/-- The effects of the 22 instructions, as updates of the state they run in. -/
inductive ExecEffect (i : Instr) (s u : State) : Prop where
  /-- A register is written and the pc advances: arithmetic, logic, shifts. -/
  | alu (v : Word) (hi : i.op ∈ [Op.add, .sub, .mac, .and, .or, .xor, .sll, .sra, .srl])
      (hu : u = (s.writeReg i.fields.rd v).advance)
  /-- Only the pc is set: the six branches. -/
  | branch (p : PcWord) (hi : i.op ∈ [Op.beq, .bne, .blt, .bgt, .ble, .bge]) (hu : u = s.setPc p)
  /-- `jal`. -/
  | jal (p : PcWord) (hi : i.op = .jal) (hu : u = (s.writeReg i.fields.rd (zext32 s.nextPc)).setPc p)
  /-- `lw` inside data memory. -/
  | load (v : Word) (hi : i.op = .lw) (ha : (s.effAddr i.fields.rs i.fields.rt).toNat < 4096)
      (hu : u = (s.writeReg i.fields.rd v).advance)
  /-- `sw` inside data memory. -/
  | store (v : Word) (hi : i.op = .sw) (ha : (s.effAddr i.fields.rs i.fields.rt).toNat < 4096)
      (hu : u = (s.writeDmem (s.effAddr i.fields.rs i.fields.rt).toNat v).advance)
  /-- `lw` or `sw` outside data memory. -/
  | addressFault (hi : i.op = .lw ∨ i.op = .sw) (ha : 4096 ≤ (s.effAddr i.fields.rs i.fields.rt).toNat)
      (hu : u = s.addressFault (s.effAddr i.fields.rs i.fields.rt))
  /-- `reti`, `in` or `out` outside the I/O bank. -/
  | ioError (hi : i.op ∈ [Op.reti, .ioIn, .ioOut]) (ha : 22 < (s.ioAddr i.fields.rs i.fields.rt).toNat)
      (hu : u = s.ioAddressError (s.ioAddr i.fields.rs i.fields.rt))
  /-- `reti`. -/
  | reti (a : IorIdx) (hi : i.op = .reti) (ha : (s.ioAddr i.fields.rs i.fields.rt).toNat = a.val)
      (hu : u = s.returnFromInterrupt.emitReti a)
  /-- `in`. -/
  | ioIn (a : IorIdx) (hi : i.op = .ioIn) (ha : (s.ioAddr i.fields.rs i.fields.rt).toNat = a.val)
      (hu : u = (((s.ioRead a).2.writeReg i.fields.rd (s.ioRead a).1).emitHw .read a (s.ioRead a).1).advance)
  /-- `out` that stores and traces, without a further effect. -/
  | outPlain (a : IorIdx) (hi : i.op = .ioOut) (ha : (s.ioAddr i.fields.rs i.fields.rt).toNat = a.val)
      (hu : u = (s.stored a (s.readReg i.fields.rm)).advance)
  /-- `out` to the LED latch. -/
  | outLed (hi : i.op = .ioOut) (ha : (s.ioAddr i.fields.rs i.fields.rt).toNat = 9)
      (hu : u = ((s.stored Ior.leds (s.readReg i.fields.rm)).emitLed (s.readReg i.fields.rm)).advance)
  /-- `out` to the 7-segment latch. -/
  | outSeg (hi : i.op = .ioOut) (ha : (s.ioAddr i.fields.rs i.fields.rt).toNat = 10)
      (hu : u = ((s.stored Ior.display7seg (s.readReg i.fields.rm)).emitSeg (s.readReg i.fields.rm)).advance)
  /-- `out` of 1 to the monitor command. -/
  | outCommit (hi : i.op = .ioOut) (ha : (s.ioAddr i.fields.rs i.fields.rt).toNat = 22)
      (hv : s.readReg i.fields.rm = 1)
      (hu : u = (s.stored Ior.monitorcmd (s.readReg i.fields.rm)).monitorCommit.advance)
  /-- `out` to the disk command that launches a DMA. -/
  | outLaunch (hi : i.op = .ioOut) (ha : (s.ioAddr i.fields.rs i.fields.rt).toNat = 14)
      (hl : s.getIor Ior.diskstatus = 0) (hv : s.readReg i.fields.rm = 1 ∨ s.readReg i.fields.rm = 2)
      (hs : (s.getIor Ior.disksector).toNat ≤ 127) (hb : (s.getIor Ior.diskbuffer).toNat ≤ 3968)
      (hu : u = (((((s.stored Ior.diskcmd (s.readReg i.fields.rm)).dmaCopy (s.readReg i.fields.rm)).setIor Ior.diskstatus
        1).setDiskTimer diskLatency).setIssued true).advance)
  /-- `out` to the disk command that raises a fault. -/
  | outFault (hi : i.op = .ioOut) (ha : (s.ioAddr i.fields.rs i.fields.rt).toNat = 14)
      (hl : s.getIor Ior.diskstatus = 0) (hv : s.readReg i.fields.rm = 1 ∨ s.readReg i.fields.rm = 2)
      (hr : 127 < (s.getIor Ior.disksector).toNat ∨ 3968 < (s.getIor Ior.diskbuffer).toNat)
      (hu : u = (s.stored Ior.diskcmd (s.readReg i.fields.rm)).raiseFault
        (.dmaRangeFault s.pc (s.getIor Ior.disksector) (s.getIor Ior.diskbuffer)))
  /-- `halt` with no DMA outstanding. -/
  | halted (hi : i.op = .halt) (h0 : s.diskTimer = 0) (hu : u = (s.setRunState .halted).setCycle (s.cycle + 1))
  /-- `halt` parked. -/
  | parked (hi : i.op = .halt) (h0 : s.diskTimer ≠ 0) (hu : u = s)

/-- Every next state of `exec` is one of the effects. -/
theorem exec_cases {i : Instr} {s u : State} (h : exec i s = .next u) : ExecEffect i s u := by
  cases i with
  | add | sub | mac | and | or | xor | sll | sra | srl =>
    exact .alu _ (by simp [Instr.op]) (Host.Outcome.next.inj h).symm
  | beq | bne | blt | bgt | ble | bge =>
    exact .branch _ (by simp [Instr.op]) (Host.Outcome.next.inj h).symm
  | jal => exact .jal _ rfl (Host.Outcome.next.inj h).symm
  | lw rd rs rt rm i1 i2 =>
    have h := (Host.Outcome.next.inj h).symm
    by_cases ha : (s.effAddr rs rt).toNat < 4096
    · exact .load _ rfl ha (h.trans (if_pos (by simpa [inDmem] using ha)))
    · exact .addressFault (.inl rfl) (Nat.not_lt.mp ha) (h.trans (if_neg (by simpa [inDmem] using ha)))
  | sw rd rs rt rm i1 i2 =>
    have h := (Host.Outcome.next.inj h).symm
    by_cases ha : (s.effAddr rs rt).toNat < 4096
    · exact .store _ rfl ha (h.trans (if_pos (by simpa [inDmem] using ha)))
    · exact .addressFault (.inr rfl) (Nat.not_lt.mp ha) (h.trans (if_neg (by simpa [inDmem] using ha)))
  | reti rd rs rt rm i1 i2 =>
    simp only [exec, execReti, Host.Outcome.next.injEq] at h
    cases ha : ioSlot (s.ioAddr rs rt) with
    | none => rw [ha] at h; exact .ioError (by simp [Instr.op]) (ioSlot_eq_none.mp ha) h.symm
    | some a => rw [ha] at h; exact .reti a rfl (ioSlot_eq_some.mp ha) h.symm
  | ioIn rd rs rt rm i1 i2 =>
    simp only [exec, execIn, Host.Outcome.next.injEq] at h
    cases ha : ioSlot (s.ioAddr rs rt) with
    | none => rw [ha] at h; exact .ioError (by simp [Instr.op]) (ioSlot_eq_none.mp ha) h.symm
    | some a => rw [ha] at h; exact .ioIn a rfl (ioSlot_eq_some.mp ha) h.symm
  | ioOut rd rs rt rm i1 i2 =>
    simp only [exec, execOut, Host.Outcome.next.injEq] at h
    cases ha : ioSlot (s.ioAddr rs rt) with
    | none => rw [ha] at h; exact .ioError (by simp [Instr.op]) (ioSlot_eq_none.mp ha) h.symm
    | some a =>
      simp only [ha] at h
      replace ha := ioSlot_eq_some.mp ha
      rcases s.ioWrite_cases a (s.readReg rm) with ⟨rfl, k⟩ | ⟨rfl, k⟩ | ⟨rfl, k⟩ | ⟨rfl, hv, k⟩ | ⟨-, -, -, -, k⟩
      · rw [k] at h; exact .outLed rfl ha h.symm
      · rw [k] at h; exact .outSeg rfl ha h.symm
      · rw [k] at h
        rcases (s.stored Ior.diskcmd (s.readReg rm)).dmaIssue_cases (s.readReg rm) with
          ⟨hl, hr, k⟩ | ⟨hl, hr, k⟩ | ⟨-, k⟩
        · rw [k] at h
          rw [State.dmaLaunches_iff] at hl
          rw [State.dmaOutOfRange_iff] at hr
          simp at hl hr
          exact .outFault rfl ha hl.1 hl.2 hr (by rw [← h]; simp; rfl)
        · rw [k] at h
          rw [State.dmaLaunches_iff] at hl
          rw [← Bool.not_eq_true, State.dmaOutOfRange_iff] at hr
          simp at hl hr
          exact .outLaunch rfl ha hl.1 hl.2 hr.1 hr.2 h.symm
        · rw [k] at h; exact .outPlain Ior.diskcmd rfl ha h.symm
      · rw [k] at h; exact .outCommit rfl ha hv h.symm
      · rw [k] at h; exact .outPlain a rfl ha h.symm
  | halt =>
    have h := (Host.Outcome.next.inj h).symm
    by_cases h0 : s.diskTimer = 0
    · exact .halted rfl h0 (h.trans (if_pos h0))
    · exact .parked rfl h0 (h.trans (if_neg h0))

/-- An `out` to the disk command is its store, its trace event and the issue (R205, R256). -/
theorem execOut_diskcmd {rs rt : RegIdx} {s : State} (rm : RegIdx) (h : (s.ioAddr rs rt).toNat = 14) :
    execOut rs rt rm s =
      .next (match (s.stored Ior.diskcmd (s.readReg rm)).dmaIssue (s.readReg rm) with
        | .completed t => t.advance
        | .raised t => t) := by
  have hs : ioSlot (s.ioAddr rs rt) = some Ior.diskcmd := ioSlot_eq_some.mpr h
  simp only [execOut, hs, State.ioWrite]
  rfl

end Sys2Proof.Machine
end

