-- ==== Sys2Proof/Laws/PerInstr.lean ====
section
/-!
SUPPORT. A statement for every instruction as syntax, one lemma for each constructor.
-/

namespace Sys2Proof.Laws

/-- The operation and the six fields determine the instruction: there is one format and nothing else is encoded
(30_encoding.md R91, R97). -/
def Format.Statement (i : Instr) : Prop := i.op.toInstr i.fields = i

theorem Format.add (rd rs rt rm : RegIdx) (i1 i2 : Imm) : Format.Statement (.add rd rs rt rm i1 i2) := rfl
theorem Format.sub (rd rs rt rm : RegIdx) (i1 i2 : Imm) : Format.Statement (.sub rd rs rt rm i1 i2) := rfl
theorem Format.mac (rd rs rt rm : RegIdx) (i1 i2 : Imm) : Format.Statement (.mac rd rs rt rm i1 i2) := rfl
theorem Format.and (rd rs rt rm : RegIdx) (i1 i2 : Imm) : Format.Statement (.and rd rs rt rm i1 i2) := rfl
theorem Format.or (rd rs rt rm : RegIdx) (i1 i2 : Imm) : Format.Statement (.or rd rs rt rm i1 i2) := rfl
theorem Format.xor (rd rs rt rm : RegIdx) (i1 i2 : Imm) : Format.Statement (.xor rd rs rt rm i1 i2) := rfl
theorem Format.sll (rd rs rt rm : RegIdx) (i1 i2 : Imm) : Format.Statement (.sll rd rs rt rm i1 i2) := rfl
theorem Format.sra (rd rs rt rm : RegIdx) (i1 i2 : Imm) : Format.Statement (.sra rd rs rt rm i1 i2) := rfl
theorem Format.srl (rd rs rt rm : RegIdx) (i1 i2 : Imm) : Format.Statement (.srl rd rs rt rm i1 i2) := rfl
theorem Format.beq (rd rs rt rm : RegIdx) (i1 i2 : Imm) : Format.Statement (.beq rd rs rt rm i1 i2) := rfl
theorem Format.bne (rd rs rt rm : RegIdx) (i1 i2 : Imm) : Format.Statement (.bne rd rs rt rm i1 i2) := rfl
theorem Format.blt (rd rs rt rm : RegIdx) (i1 i2 : Imm) : Format.Statement (.blt rd rs rt rm i1 i2) := rfl
theorem Format.bgt (rd rs rt rm : RegIdx) (i1 i2 : Imm) : Format.Statement (.bgt rd rs rt rm i1 i2) := rfl
theorem Format.ble (rd rs rt rm : RegIdx) (i1 i2 : Imm) : Format.Statement (.ble rd rs rt rm i1 i2) := rfl
theorem Format.bge (rd rs rt rm : RegIdx) (i1 i2 : Imm) : Format.Statement (.bge rd rs rt rm i1 i2) := rfl
theorem Format.jal (rd rs rt rm : RegIdx) (i1 i2 : Imm) : Format.Statement (.jal rd rs rt rm i1 i2) := rfl
theorem Format.lw (rd rs rt rm : RegIdx) (i1 i2 : Imm) : Format.Statement (.lw rd rs rt rm i1 i2) := rfl
theorem Format.sw (rd rs rt rm : RegIdx) (i1 i2 : Imm) : Format.Statement (.sw rd rs rt rm i1 i2) := rfl
theorem Format.reti (rd rs rt rm : RegIdx) (i1 i2 : Imm) : Format.Statement (.reti rd rs rt rm i1 i2) := rfl
theorem Format.ioIn (rd rs rt rm : RegIdx) (i1 i2 : Imm) : Format.Statement (.ioIn rd rs rt rm i1 i2) := rfl
theorem Format.ioOut (rd rs rt rm : RegIdx) (i1 i2 : Imm) : Format.Statement (.ioOut rd rs rt rm i1 i2) := rfl
theorem Format.halt (rd rs rt rm : RegIdx) (i1 i2 : Imm) : Format.Statement (.halt rd rs rt rm i1 i2) := rfl

end Sys2Proof.Laws
end

