-- ==== Sys2Proof/Machine/Dumps.lean ====
section
/-!
DEFINITION. What is read back from a final state (spec 60_exceptions.md R274, 40_cycle_engine.md R134), as lists of values. The
text of the dump files is outside the hardware (00_scope.md R4).
-/

namespace Sys2Proof.Machine

/-- The locations 0 to `n - 1` of a memory, in order. -/
def Memory.dump {w : Nat} (m : Memory w) (n : Nat) : List (BitVec w) :=
  (List.range n).map m.read

/-- "truncated after the last nonzero" entry. -/
def truncateZeros {w : Nat} (vs : List (BitVec w)) : List (BitVec w) :=
  (vs.reverse.dropWhile (· == 0)).reverse

/-- All 4096 data-memory words. -/
def State.dumpDmem (s : State) : List Word := s.dmem.dump dmemWords

/-- Registers 3 to 15. -/
def State.dumpRegs (s : State) : List Word := s.regSnapshot.toList.drop 3

/-- The disk, sector-major, truncated after the last nonzero word. -/
def State.dumpDisk (s : State) : List Word := truncateZeros (s.disk.dump diskWords)

/-- The framebuffer, row-major, truncated after the last nonzero pixel (the text form). -/
def State.dumpFb (s : State) : List Pixel := truncateZeros (s.fb.dump fbPixels)

/-- The framebuffer, row-major, never truncated (the raw form). -/
def State.dumpFbRaw (s : State) : List Pixel := s.fb.dump fbPixels

/-- The total cycle count. -/
def State.dumpCycle (s : State) : Nat := s.cycle

end Sys2Proof.Machine
end

