-- ==== Sys2Proof/Tests/Slice0.lean ====
section
/-!
SUPPORT. Tests of one step each, and the witnesses of the statements' hypotheses. Expected values are those of
95_test_vectors.md (its vector is named) or the bit layout of 30_encoding.md R91 with the numbers of R98.
-/

open Sys2Proof Sys2Proof.Machine

namespace Sys2Proof.Tests

/-- The state after one step; a step that has no next state leaves the state. -/
def after (s : State) : State :=
  match step s with
  | .next t => t
  | .fault _ => s
  | .refused _ => s

/-- The reset state at `pc`, with the word `w` there and some registers set. -/
def startAt (pc : PcWord) (w : Nat) (regs : List (RegIdx × Word)) : State :=
  regs.foldl (fun s p => s.writeReg p.1 p.2) ((State.reset.setPc pc).withFetchWord 48 w)

/-- The same at the reset pc. -/
def start (w : Nat) (regs : List (RegIdx × Word)) : State := startAt 0 w regs

/-- Some words of the I/O bank set. -/
def withIor (s : State) (ws : List (IorIdx × Word)) : State := ws.foldl (fun s p => s.setIor p.1 p.2) s

/-- The state with other parameters. -/
def withParams (s : State) (p : Params) : State := { s with params := p }

theorem step_after (s : State) (h : s.runState = .running) : step s = .next (after s) := by
  have hn : ∃ t, step s = .next t := by
    unfold step State.executeWord
    rw [h]
    cases decode s.prepared.params.opcodeMap s.beginCycle.fetch with
    | error e => exact ⟨_, rfl⟩
    | ok i => obtain ⟨u, hu⟩ := exec_next i s.prepared; simp [hu]
  obtain ⟨t, ht⟩ := hn
  simp [after, ht]

/-! ### WellFormed: each check refuses an ill-formed term -/

theorem test_wf_default_map : defaultOpcodeMap.wf = true := by decide
theorem test_wf_refuses_short_map : OpcodeMap.wf [.add, .halt] = false := by decide
theorem test_wf_refuses_repeated_operation : OpcodeMap.wf (.sub :: defaultOpcodeMap.tail) = false := by decide
theorem test_wf_refuses_unnumbered_instruction : (Instr.mac 0 0 0 0 0 0).wf [.add, .halt] = false := by decide
theorem test_wf_refuses_equal_schedule_entries : scheduleWf [3, 3] = false := by decide
theorem test_wf_refuses_descending_schedule : scheduleWf [3, 2] = false := by decide
theorem test_wf_refuses_parameters : Params.wf { defaultParams with irq2Schedule := [5, 1] } = false := by decide
theorem test_wf_refuses_parameters_map : Params.wf { defaultParams with opcodeMap := [.halt] } = false := by decide
theorem test_boot_refuses_parameters :
    State.boot { defaultParams with irq2Schedule := [5, 1] } ⟨[], [], []⟩ = .error .parameterOutOfDomain := by decide
theorem test_boot_of_nothing_is_reset : State.boot defaultParams ⟨[], [], []⟩ = .ok State.reset := by decide

/-! ### Decode: every constructor's word, the digits being opcode, opcode, rd, rs, rt, rm, imm1 (3), imm2 (3) -/

theorem test_decode_add : decodeTableWord 48 0x003010005000 = some (.add 3 0 1 0 5 0) := by decide
theorem test_decode_sub : decodeTableWord 48 0x017710001000 = some (.sub 7 7 1 0 1 0) := by decide
theorem test_decode_mac : decodeTableWord 48 0x023441001000 = some (.mac 3 4 4 1 1 0) := by decide
theorem test_decode_and : decodeTableWord 48 0x031234567ABC = some (.and 1 2 3 4 0x567 0xABC) := by decide
theorem test_decode_or : decodeTableWord 48 0x041234567ABC = some (.or 1 2 3 4 0x567 0xABC) := by decide
theorem test_decode_xor : decodeTableWord 48 0x051234567ABC = some (.xor 1 2 3 4 0x567 0xABC) := by decide
theorem test_decode_sll : decodeTableWord 48 0x061234567ABC = some (.sll 1 2 3 4 0x567 0xABC) := by decide
theorem test_decode_sra : decodeTableWord 48 0x071234567ABC = some (.sra 1 2 3 4 0x567 0xABC) := by decide
theorem test_decode_srl : decodeTableWord 48 0x081234567ABC = some (.srl 1 2 3 4 0x567 0xABC) := by decide
theorem test_decode_beq : decodeTableWord 48 0x09000F000000 = some (.beq 0 0 0 15 0 0) := by decide
theorem test_decode_bne : decodeTableWord 48 0x0A7F3C800801 = some (.bne 7 15 3 12 0x800 0x801) := by decide
theorem test_decode_blt : decodeTableWord 48 0x0B0712006004 = some (.blt 0 7 1 2 6 4) := by decide
theorem test_decode_bgt : decodeTableWord 48 0x0C1234567ABC = some (.bgt 1 2 3 4 0x567 0xABC) := by decide
theorem test_decode_ble : decodeTableWord 48 0x0D1234567ABC = some (.ble 1 2 3 4 0x567 0xABC) := by decide
theorem test_decode_bge : decodeTableWord 48 0x0E1234567ABC = some (.bge 1 2 3 4 0x567 0xABC) := by decide
theorem test_decode_jal : decodeTableWord 48 0x0FF001004000 = some (.jal 15 0 0 1 4 0) := by decide
theorem test_decode_lw : decodeTableWord 48 0x104010040000 = some (.lw 4 0 1 0 0x040 0) := by decide
theorem test_decode_sw : decodeTableWord 48 0x113012064005 = some (.sw 3 0 1 2 0x064 5) := by decide
theorem test_decode_reti : decodeTableWord 48 0x120010003000 = some (.reti 0 0 1 0 3 0) := by decide
theorem test_decode_in : decodeTableWord 48 0x138010016000 = some (.ioIn 8 0 1 0 0x016 0) := by decide
theorem test_decode_out : decodeTableWord 48 0x140012009155 = some (.ioOut 0 0 1 2 9 0x155) := by decide
theorem test_decode_halt : decodeTableWord 48 0x15ABCDEF0123 = some (.halt 10 11 12 13 0xEF0 0x123) := by decide
theorem test_decode_refuses_22 : decodeTableWord 48 0x160000000000 = none := by decide
theorem test_decode_compares_all_eight_bits : decodeTableWord 48 0x950000000000 = none := by decide
theorem test_encode_add : encode defaultOpcodeMap (.add 3 0 1 0 5 0) = 0x003010005000 := by decide
theorem test_encode_bne : encode defaultOpcodeMap (.bne 7 15 3 12 0x800 0x801) = 0x0A7F3C800801 := by decide

/-! ### One step: arithmetic and logic (words of R91: rd 3, rs 4, rt 5, rm 6) -/

/-- A1. -/
theorem test_add_wraps : (after (start 0x003456000000 [(4, 0x7FFFFFFF), (5, 1)])).readReg 3 = 0x80000000 := by decide
/-- Section 2.2, "same register as source and destination": all reads precede the write. -/
theorem test_add_reads_before_writing : (after (start 0x000000000000 [(0, 7)])).readReg 0 = 0x15 := by decide
/-- A6. -/
theorem test_sub_both : (after (start 0x013456000000 [(4, 5), (5, 3), (6, 1)])).readReg 3 = 1 := by decide
/-- A10. -/
theorem test_mac_signed :
    (after (start 0x023456000000 [(4, 0xFFFFFFFD), (5, 4), (6, 0xFFFFFFFF)])).readReg 3 = 0xFFFFFFF3 := by decide
/-- A12. -/
theorem test_mac_low_word :
    (after (start 0x023456000000 [(4, 0x12345678), (5, 0x9ABCDEF0), (6, 0x11111111)])).readReg 3 = 0x353E3191 := by decide
/-- A13. -/
theorem test_and_three :
    (after (start 0x033456000000 [(4, 0xFF00FF00), (5, 0x0FF00FF0), (6, 0xFFFFFFFF)])).readReg 3 = 0x0F000F00 := by decide
/-- A15. -/
theorem test_or_three : (after (start 0x043456000000 [(4, 0xF0), (5, 0x0F), (6, 0x100)])).readReg 3 = 0x1FF := by decide
/-- A17. -/
theorem test_xor_three : (after (start 0x053444000000 [(4, 0x1234)])).readReg 3 = 0x1234 := by decide
/-- A21. -/
theorem test_sll_by_minus_one : (after (start 0x063450000000 [(4, 3), (5, 0xFFFFFFFF)])).readReg 3 = 0x80000000 := by decide
/-- A25. -/
theorem test_sra_by_36 : (after (start 0x073450000000 [(4, 0xFFFFFFF0), (5, 0x24)])).readReg 3 = 0xFFFFFFFF := by decide
/-- A27. -/
theorem test_srl_zero_fills : (after (start 0x083450000000 [(4, 0x80000000), (5, 4)])).readReg 3 = 0x08000000 := by decide
/-- D2 through an `add` of the immediates: -2048 and -2047. -/
theorem test_immediates_sign_extend : (after (start 0x003120800801 [])).readReg 3 = 0xFFFFF001 := by decide
/-- Program Z, second end: register 0 hardwired. -/
theorem test_add_to_hardwired_zero :
    (after (withParams (start 0x000010007000 []) { defaultParams with zeroRegHardwired := true })).regs[0] = 0 := by decide

/-! ### Branches (words: rs 4, rt 5, rm 6) and `jal` -/

/-- B1 and B9: taken, the target masked. -/
theorem test_beq_taken : (after (start 0x090456000000 [(6, 0xFFFFFFFF)])).pc = 0xFFF := by decide
/-- B2. -/
theorem test_beq_falls_through : (after (start 0x090456000000 [(4, 1), (5, 2), (6, 9)])).pc = 1 := by decide
/-- B2 and B10. -/
theorem test_bne_taken : (after (start 0x0A0456000000 [(4, 1), (5, 2), (6, 0x1005)])).pc = 5 := by decide
/-- B4 and B11: signed. -/
theorem test_blt_signed : (after (start 0x0B0456000000 [(4, 0xFFFFFFFF), (5, 1), (6, 0xFFFFF800)])).pc = 0x800 := by decide
/-- B7. -/
theorem test_bgt_signed : (after (start 0x0C0456000000 [(4, 0x7FFFFFFF), (5, 0x80000000), (6, 9)])).pc = 9 := by decide
/-- B6. -/
theorem test_ble_signed : (after (start 0x0D0456000000 [(4, 0x80000000), (5, 0x7FFFFFFF), (6, 9)])).pc = 9 := by decide
/-- B4. -/
theorem test_bge_not_taken : (after (start 0x0E0456000000 [(4, 0xFFFFFFFF), (5, 1), (6, 9)])).pc = 1 := by decide
/-- B8. -/
theorem test_bge_equal : (after (start 0x0E0456000000 [(4, 0x80000000), (5, 0x80000000), (6, 9)])).pc = 9 := by decide
/-- J2: the link is written before the target is read. -/
theorem test_jal_link_is_target : (after (startAt 1 0x0FF00F000000 [(15, 9)])).pc = 2 := by decide
/-- J3: the link at the top of instruction memory. -/
theorem test_jal_wraps :
    (after (startAt 0xFFF 0x0FF001001000 [(15, 9)])).readReg 15 = 0 ∧
      (after (startAt 0xFFF 0x0FF001001000 [(15, 9)])).pc = 1 := by decide

/-! ### Loads and stores -/

/-- M2. -/
theorem test_lw_adds_rm : (after ((start 0x103014040000 [(4, 5)]).writeDmem 64 0xFFFFFFFE)).readReg 3 = 3 := by decide
/-- M6. -/
theorem test_lw_faults :
    (after (start 0x103010FFF000 [])).runState = .faulted (.memAddressFault 0 0xFFFFFFFF) ∧
      (after (start 0x103010FFF000 [])).cycle = 0 ∧ (after (start 0x103010FFF000 [])).readReg 1 = 0xFFFFFFFF := by decide
/-- M9. -/
theorem test_sw_stores_the_sum : (after (start 0x113012064005 [(3, 10)])).dmem = [(100, 15)] := by decide
/-- M11 under `legacy_stall` (R194): reported, the pc stays, the cycle counts. -/
theorem test_sw_stalls :
    let t := after (withParams (start 0x113010800000 []) { defaultParams with faultPolicy := .legacyStall })
    t.pc = 0 ∧ t.cycle = 1 ∧ t.runState = .running ∧ t.obs.errors = [⟨0, .memAddressError, 0, 0xFFFFF800⟩] := by decide

/-! ### I/O, `reti`, `halt` -/

/-- O6: the value before the clear. -/
theorem test_in_clears_monitorcmd :
    let t := after (withIor (start 0x138010016000 []) [(22, 1)])
    t.readReg 8 = 1 ∧ t.getIor 22 = 0 ∧ t.obs.hwRegTrace = [⟨0, .read, 22, 1⟩] := by decide
/-- O5. -/
theorem test_in_clks : (after ((start 0x135010008000 []).setCycle 7)).readReg 5 = 7 := by decide
/-- O2. -/
theorem test_out_leds :
    let t := after ((start 0x140012009155 []).setCycle 4)
    t.getIor 9 = 0x155 ∧ t.obs.hwRegTrace = [⟨4, .write, 9, 0x155⟩] ∧ t.obs.ledLog = [⟨4, 0x155⟩] := by decide
/-- O8. -/
theorem test_out_address_error :
    let t := after (start 0x140012017007 [])
    t.obs.errors = [⟨0, .ioAddressError, 0, 0x17⟩] ∧ t.pc = 1 ∧ t.obs.hwRegTrace = [] := by decide
/-- V2. -/
theorem test_out_commits_pixel :
    (after (withIor (start 0x140012016001 []) [(20, 0xABCD1234), (21, 7)])).fb = [(0x1234, 7)] := by decide
/-- K5. -/
theorem test_out_dma_range_fault :
    let t := after (withIor (start 0x14001200E001 []) [(15, 128)])
    t.runState = .faulted (.dmaRangeFault 0 128 0) ∧ t.getIor 14 = 1 ∧ t.getIor 17 = 0 ∧ t.diskTimer = 0 := by decide
/-- O11: bits 31:12 ignored, one event. -/
theorem test_reti_masks_the_pc :
    (after (withIor (start 0x120010003000 []) [(7, 0x1004)])).pc = 4 ∧
      (after (withIor (start 0x120010003000 []) [(7, 0x1004)])).obs.hwRegTrace.length = 1 := by decide
/-- O12. -/
theorem test_reti_falls_through :
    (after (startAt 3 0x120000000000 [(0, 12)])).pc = 4 ∧
      (after (startAt 3 0x120000000000 [(0, 12)])).obs.errors = [⟨0, .ioAddressError, 3, 0x18⟩] := by decide
/-- O13. -/
theorem test_halt_halts :
    let t := after ((start 0x150000000000 []).setCycle 6)
    t.runState = .halted ∧ t.cycle = 7 ∧ t.pc = 0 := by decide
/-- O14. -/
theorem test_halt_parks :
    let t := after (((start 0x150000000000 []).setCycle 6).setDiskTimer 5)
    t.runState = .running ∧ t.cycle = 7 ∧ t.pc = 0 ∧ t.diskTimer = 4 := by decide
/-- Section 2.6. -/
theorem test_unassigned_opcode :
    let t := after (start 0xFF0000123FFF [])
    t.runState = .faulted (.illegalOpcode 0 0xFF0000123FFF) ∧ t.readReg 1 = 0x123 ∧ t.readReg 2 = 0xFFFFFFFF := by decide

/-! ### Phases P7 to P10 -/

/-- I3: only a contributing status word is cleared. -/
theorem test_interrupt_entry :
    let t := (withIor (startAt 5 0 []) [(0, 1), (1, 1), (3, 1), (4, 1), (5, 1), (6, 8)]).interruptStep
    t.getIor 7 = 5 ∧ t.pc = 8 ∧ t.getIor 3 = 0 ∧ t.getIor 4 = 0 ∧ t.getIor 5 = 1 := by decide
/-- I6: the guard compares the low 12 bits. -/
theorem test_interrupt_guard :
    (withIor (startAt 8 0 []) [(0, 1), (3, 1), (6, 0x1008)]).interruptStep.pc = 8 ∧
      (withIor (startAt 8 0 []) [(0, 1), (3, 1), (6, 0x1008)]).interruptStep.getIor 3 = 1 := by decide
/-- I4: the line is bitwise. -/
theorem test_interrupt_bitwise : (withIor (startAt 5 0 []) [(0, 2), (3, 1), (6, 8)]).interruptStep.pc = 5 := by decide
/-- T3 and T4. -/
theorem test_timer_compare :
    (withIor State.reset [(11, 1), (12, 5), (13, 5)]).timerStep.getIor 12 = 6 ∧
      (withIor State.reset [(11, 1), (12, 0xFFFFFFFF)]).timerStep.getIor 3 = 1 := by decide
/-- R129: the pulse of the scheduled cycle. -/
theorem test_external_pulse :
    let t := (withParams (State.reset.setCycle 4) { defaultParams with irq2Schedule := [4, 5] }).externalStep
    t.getIor 5 = 1 ∧ t.schedPtr = 1 := by decide
/-- R274: a dump drops the zeros at its end. -/
theorem test_dump_truncates : truncateZeros ([0, 7, 0, 0] : List Pixel) = [0, 7] := by decide

/-! ### Witnesses: a state and operands that meet the hypotheses of each statement that has some -/

theorem test_witness_DecodeInvertsEncode :
    defaultOpcodeMap.length ≤ 256 ∧ (Instr.halt 15 15 15 15 0xFFF 0x800).wf defaultOpcodeMap = true := by decide
theorem test_witness_BijectiveMapsNumberEveryInstruction : OpcodeMap.wf defaultOpcodeMap.reverse = true := by decide
theorem test_witness_EncodeInvertsDecode :
    defaultOpcodeMap.Nodup ∧ decode defaultOpcodeMap 0x15FFFFFFFFFF = .ok (.halt 15 15 15 15 0xFFF 0xFFF) := by decide
theorem test_witness_OpcodesAboveTwentyOneAreUnassigned :
    (opcodeField 0x150000000000).toNat ≤ 21 ∧ 21 < (opcodeField 0x160000000000).toNat := by decide
theorem test_witness_StepRunsTheDecodedInstruction :
    (start 0x003010005000 []).Runs (.add 3 0 1 0 5 0) ∧ (State.reset.setRunState .halted).runState ≠ .running := by decide
theorem test_witness_EveryCycleTracesItsInstruction :
    ∃ s t : State, s.runState = .running ∧ step s = .next t := ⟨start 0 [], _, rfl, step_after _ rfl⟩
theorem test_witness_UnassignedOpcodeFaults :
    (start 0x160000000000 []).runState = .running ∧
      (start 0x160000000000 []).params.opcodeMap.length ≤ (opcodeField (start 0x160000000000 []).fetch).toNat := by decide
theorem test_witness_NoCycleStartsInATerminalState :
    (State.reset.setRunState .halted).runState = .halted ∧
      (State.reset.setRunState (.faulted (.illegalOpcode 0 0))).runState = .faulted (.illegalOpcode 0 0) := by decide
theorem test_witness_EveryCycleCompletesAndCounts :
    (after (start 0x150000000000 [])).NotFaulted ∧ ¬ (after (start 0x160000000000 [])).NotFaulted := by
  refine ⟨fun f h => ?_, fun h => h (.illegalOpcode 0 0x160000000000) (by decide)⟩
  have : (after (start 0x150000000000 [])).runState = .halted := by decide
  rw [this] at h
  cases h
/-- `lw`, `sw` and the pair of them: the last word of data memory, and the first address past it. -/
theorem test_witness_loads_and_stores :
    ((start 0 [(4, 4095)]).effAddr 4 5).toNat < 4096 ∧ 4096 ≤ ((start 0 [(4, 4096)]).effAddr 4 5).toNat := by decide
theorem test_witness_IoAddressAboveTwentyTwoIsANop : 22 < ((start 0 [(4, 23)]).ioAddr 4 5).toNat := by decide
/-- `in` and `reti` at the last word of the bank, `reti` at the first. -/
theorem test_witness_io_addresses :
    ((start 0 [(4, 22)]).ioAddr 4 5).toNat = (22 : IorIdx).val ∧ ((start 0 []).ioAddr 4 5).toNat = (0 : IorIdx).val ∧
      (22 : IorIdx) ≠ 0 := by decide
theorem test_witness_OutStoresPlainWords :
    ((start 0 [(4, 21)]).ioAddr 4 5).toNat = (21 : IorIdx).val ∧ (21 : IorIdx) ≠ Ior.leds ∧
      (21 : IorIdx) ≠ Ior.display7seg ∧ (21 : IorIdx) ≠ Ior.diskcmd ∧ (21 : IorIdx) ≠ Ior.monitorcmd := by decide
theorem test_witness_OutLatchesAndLogs :
    ((start 0 [(4, 9)]).ioAddr 4 5).toNat = (Ior.leds).val ∧
      ((start 0 [(4, 10)]).ioAddr 4 5).toNat = (Ior.display7seg).val := by decide
theorem test_witness_OutOfOneCommitsThePixel :
    ((start 0 [(4, 22)]).ioAddr 4 5).toNat = 22 ∧ (start 0 [(4, 22), (6, 1)]).readReg 6 = 1 := by decide
/-- The disk busy, and the disk idle with another code. -/
theorem test_witness_DiskCommandWithoutLaunchIsStored :
    ((start 0 [(4, 14)]).ioAddr 4 5).toNat = 14 ∧ (withIor (start 0 [(4, 14)]) [(17, 1)]).getIor Ior.diskstatus ≠ 0 ∧
      (start 0 [(4, 14), (6, 3)]).readReg 6 ≠ 1 ∧ (start 0 [(4, 14), (6, 3)]).readReg 6 ≠ 2 := by decide
/-- Both codes, the last sector, the last buffer. -/
theorem test_witness_DiskCommandCopiesTheSector :
    let s := withIor (start 0 [(4, 14), (6, 1)]) [(15, 127), (16, 3968)]
    (s.ioAddr 4 5).toNat = 14 ∧ s.getIor Ior.diskstatus = 0 ∧ s.readReg 6 = 1 ∧ (s.writeReg 6 2).readReg 6 = 2 ∧
      (s.getIor Ior.disksector).toNat ≤ 127 ∧ (s.getIor Ior.diskbuffer).toNat ≤ 3968 := by decide +kernel
/-- The first sector and the first buffer that do not exist. -/
theorem test_witness_DiskCommandOutOfRangeFaults :
    let s := withIor (start 0 [(4, 14), (6, 2)]) [(15, 128), (16, 3968)]
    let t := withIor (start 0 [(4, 14), (6, 2)]) [(15, 127), (16, 3969)]
    (s.ioAddr 4 5).toNat = 14 ∧ s.getIor Ior.diskstatus = 0 ∧ s.readReg 6 = 2 ∧ 127 < (s.getIor Ior.disksector).toNat ∧
      (t.ioAddr 4 5).toNat = 14 ∧ t.getIor Ior.diskstatus = 0 ∧ t.readReg 6 = 2 ∧
      3968 < (t.getIor Ior.diskbuffer).toNat := by decide +kernel
theorem test_witness_HaltHaltsOrParks : State.reset.diskTimer = 0 ∧ (State.reset.setDiskTimer 1).diskTimer ≠ 0 := by decide
theorem test_witness_InterruptEntrySavesAndClears :
    let s := withIor (startAt 5 0 []) [(0, 0xFFFFFFFF), (3, 0x80000000), (6, 8)]
    ((s.getIor 0 &&& s.getIor 3) ||| (s.getIor 1 &&& s.getIor 4) ||| (s.getIor 2 &&& s.getIor 5)) ≠ 0 ∧
      s.pc.toNat ≠ (s.getIor 6).toNat % 4096 := by decide
/-- Masked (I4), and guarded (I6). -/
theorem test_witness_NoInterruptWhenMaskedOrGuarded :
    (let s := withIor (startAt 5 0 []) [(0, 2), (3, 1), (6, 8)]
     s.getIor 0 &&& s.getIor 3 = 0 ∧ s.getIor 1 &&& s.getIor 4 = 0 ∧ s.getIor 2 &&& s.getIor 5 = 0) ∧
    (let s := withIor (startAt 8 0 []) [(0, 1), (3, 1), (6, 0x1008)]
     s.pc.toNat = (s.getIor 6).toNat % 4096) := by decide
theorem test_witness_RetiUndoesTheEntry : ((start 0 [(4, 22)]).ioAddr 4 5).toNat ≤ 22 := by decide
theorem test_witness_ExternalSourcePulsesOnSchedule :
    let s := withParams State.reset { defaultParams with irq2Schedule := [0] }
    s.params.irq2Schedule[s.schedPtr]? = some s.cycle ∧
      State.reset.params.irq2Schedule[State.reset.schedPtr]? ≠ some State.reset.cycle := by decide
theorem test_witness_TimerWrapsEveryNSteps :
    State.reset.getIor Ior.timerenable ≠ 1 ∧
      (let s := withIor State.reset [(11, 1), (13, 1)]
       s.getIor Ior.timerenable = 1 ∧ s.getIor Ior.timercurrent = 0 ∧ s.getIor Ior.timermax ≠ 0) := by decide
/-- T4 (fires, at maximum 0), T3 (counts, at the maximum) and T6 (not enabled). -/
theorem test_witness_TimerStepCountsOrFires :
    (let s := withIor State.reset [(11, 1), (12, 0xFFFFFFFF)]
     s.getIor Ior.timerenable = 1 ∧ ((s.getIor Ior.timercurrent).toNat + 1) % 2 ^ 32 = (s.getIor Ior.timermax).toNat) ∧
    (let s := withIor State.reset [(11, 1), (12, 5), (13, 5)]
     s.getIor Ior.timerenable = 1 ∧ ((s.getIor Ior.timercurrent).toNat + 1) % 2 ^ 32 ≠ (s.getIor Ior.timermax).toNat) ∧
    (withIor State.reset [(11, 2), (12, 3), (13, 5)]).getIor Ior.timerenable ≠ 1 := by decide
theorem test_witness_DiskCompletesWhenTheCountEnds :
    (let s := (State.reset.setDiskTimer 2).setIssued true
     s.issuedThisCycle = true ∧ 1 < s.diskTimer) ∧
    (let s := State.reset.setDiskTimer 1
     s.issuedThisCycle = false ∧ s.diskTimer ≠ 0) := by decide
/-- The idle disk with the last sector and the last buffer selected. -/
def idle : State := withIor State.reset [(15, 127), (16, 3968)]

theorem idle_reads :
    idle.getIor Ior.diskstatus = 0 ∧ (idle.getIor Ior.disksector).toNat ≤ 127 ∧
      (idle.getIor Ior.diskbuffer).toNat ≤ 3968 := by decide +kernel

theorem idle_write_issues : ∃ t, idle.dmaIssue 2 = .completed t := by
  obtain ⟨h0, hs, hb⟩ := idle_reads
  have hl := (idle.dmaLaunches_iff 2).mpr ⟨h0, .inr rfl⟩
  rcases idle.dmaIssue_cases 2 with ⟨-, ho, -⟩ | ⟨-, -, h⟩ | ⟨h, -⟩
  · have := idle.dmaOutOfRange_iff.mp ho
    omega
  · exact ⟨_, h⟩
  · rw [hl] at h
    cases h

theorem test_witness_SectorWriteThenReadRoundTrips :
    ∃ t u : State, idle.getIor Ior.diskstatus = 0 ∧ (idle.getIor Ior.disksector).toNat ≤ 127 ∧
      (idle.getIor Ior.diskbuffer).toNat ≤ 3968 ∧ idle.dmaIssue 2 = .completed t ∧ u.disk = t.disk ∧
      u.getIor Ior.diskstatus = 0 ∧ u.getIor Ior.disksector = idle.getIor Ior.disksector ∧
      (u.getIor Ior.diskbuffer).toNat ≤ 3968 := by
  obtain ⟨t, ht⟩ := idle_write_issues
  obtain ⟨h0, hs, hb⟩ := idle_reads
  exact ⟨t, { idle with disk := t.disk }, h0, hs, hb, ht, rfl, h0, rfl, hb⟩
/-- A boot with an image in each memory, for the statements about boots. -/
theorem test_witness_boots :
    ∃ s, State.boot { defaultParams with irq2Schedule := [4] } ⟨[0x003010005000], [7, 0], [9]⟩ = .ok s := ⟨_, rfl⟩
/-- For the statements about every step. -/
theorem test_witness_StepKeepsTheInvariant :
    ∃ s t : State, s.Inv ∧ step s = .next t := ⟨start 0x113012064005 [], _, by decide, step_after _ rfl⟩
theorem test_witness_StepConsumesTheScheduleInOrder :
    ∃ s t : State, scheduleWf s.params.irq2Schedule = true ∧ s.ScheduleInv ∧ step s = .next t :=
  ⟨withParams (start 0 []) { defaultParams with irq2Schedule := [0, 1] }, _, by decide, by decide, step_after _ rfl⟩
theorem test_witness_RegistersChangeOnlyThroughRd :
    ∃ s t : State, step s = .next t ∧ (3 : RegIdx) ≠ 1 ∧ (3 : RegIdx) ≠ 2 ∧ t.readReg 3 ≠ s.readReg 3 :=
  ⟨start 0x003010005000 [], _, step_after _ rfl, by decide, by decide, by decide⟩
theorem test_witness_DataMemoryChangesOnlyBySwOrDma :
    ∃ s t : State, step s = .next t ∧ t.readDmem 100 ≠ s.readDmem 100 :=
  ⟨start 0x113012064005 [], _, step_after _ rfl, by decide⟩
/-- `out` of 2 to the disk command at reset, with a word in data memory: the disk takes the buffer. -/
theorem step_of_disk_write :
    ∃ t, step ((start 0x14001200E002 []).writeDmem 3 9) = .next t ∧ t.disk = Memory.copy [(3, 9)] [] 0 0 128 := by
  have hr : ((start 0x14001200E002 []).writeDmem 3 9).Runs (.ioOut 0 0 1 2 14 2) := by decide
  have ha : (((start 0x14001200E002 []).writeDmem 3 9).prepared.ioAddr 0 1).toNat = 14 := by decide
  have hb : (((start 0x14001200E002 []).writeDmem 3 9).prepared.getIor 16).toNat = 0 := by decide
  have hc : (((start 0x14001200E002 []).writeDmem 3 9).prepared.getIor 15).toNat = 0 := by decide
  have hd : ((start 0x14001200E002 []).writeDmem 3 9).prepared.getIor 17 = 0 := by decide
  have hv : (((start 0x14001200E002 []).writeDmem 3 9).prepared.readReg 2) = 2 := by decide
  have hm : ((start 0x14001200E002 []).writeDmem 3 9).prepared.dmem = [(3,9)] := by decide
  have hk : ((start 0x14001200E002 []).writeDmem 3 9).prepared.disk = [] := by decide
  have hrr : ((start 0x14001200E002 []).writeDmem 3 9).prepared.runState = .running := by decide
  obtain ⟨h1, h2⟩ := hr
  generalize (start 0x14001200E002 []).writeDmem 3 9 = S at *
  refine ⟨_, step_after S h1, ?_⟩
  have hx : exec (.ioOut 0 0 1 2 14 2) S.prepared = _ := execOut_diskcmd (s := S.prepared) 2 ha
  have hl : (S.prepared.stored Ior.diskcmd 2).dmaLaunches 2 = true := by simp [State.dmaLaunches_iff, hd]
  have ho : (S.prepared.stored Ior.diskcmd 2).dmaOutOfRange = false := by
    rw [← Bool.not_eq_true, State.dmaOutOfRange_iff]; simp [hb, hc]
  rw [hv] at hx
  simp only [State.dmaIssue, hl, ho, if_true, Bool.false_eq_true, if_false] at hx
  rcases step_cases (step_after S h1) with ⟨k, -⟩ | ⟨-, e, k, -⟩ | ⟨-, i, u, k, hu, ht⟩
  · rw [k] at h1; cases h1
  · rw [k] at h2; cases h2
  · cases k.symm.trans h2
    cases hu.symm.trans hx
    rw [ht]
    rcases State.finish_cases _ with ⟨-, hf⟩ | ⟨-, hf⟩ <;> rw [hf]
    · rw [(State.endCycle_frame _).2.2.2.2.1]
      simp [State.dmaCopy, hb, hc, hm, hk, diskAddr]
    · simp [State.dmaCopy, hb, hc, hm, hk, diskAddr]

theorem test_witness_DiskChangesOnlyByDmaWrite :
    ∃ s t : State, step s = .next t ∧ t.disk.read 3 ≠ s.disk.read 3 := by
  obtain ⟨t, ht, hd⟩ := step_of_disk_write
  exact ⟨_, t, ht, by rw [hd, Memory.read_copy]; decide⟩
theorem test_witness_FramebufferChangesOnlyByCommit :
    ∃ s t : State, step s = .next t ∧ t.readFb 258 ≠ s.readFb 258 :=
  ⟨withIor (start 0x140012016001 []) [(20, 0x102), (21, 7)], _, step_after _ rfl, by decide⟩
theorem test_witness_OnlyHaltHalts :
    ∃ s t : State, s.runState = .running ∧ step s = .next t ∧ t.runState = .halted :=
  ⟨start 0x150000000000 [], _, rfl, step_after _ rfl, by decide⟩
theorem test_witness_OnlyThreeCausesFault :
    ∃ (s t : State) (f : FaultRecord), s.runState = .running ∧ step s = .next t ∧ t.runState = .faulted f :=
  ⟨start 0x103010FFF000 [], _, .memAddressFault 0 0xFFFFFFFF, rfl, step_after _ rfl, by decide⟩
theorem test_witness_ReloadedStateIsNeverObserved : (start 0 []).runState = .running := by decide
/-- A `halt` with no countdown and one with a countdown of 1. -/
theorem test_witness_ParkedHaltEndsWithTheCountdown :
    ∀ n ∈ [0, 1],
      let s := (start 0x150000000000 []).setDiskTimer n
      s.Runs (.halt 0 0 0 0 0 0) ∧ (Instr.halt 0 0 0 0 0 0).op = .halt ∧ s.getIor Ior.irq0enable = 0 ∧
        s.getIor Ior.irq1enable = 0 ∧ s.getIor Ior.irq2enable = 0 := by decide

end Sys2Proof.Tests
end

section
/-!
The single 48-bit format (30_encoding.md R91 to R97): where the fields stand in a word, that packing them gives the word
back, and what the decoder answers.
-/

namespace Sys2Proof

/-! ### Reading a field -/

/-- A field of a word as a number: bits `start + len - 1` down to `start`. -/
theorem toNat_extractLsb'_eq_div_mod (w : Slot) (start len : Nat) :
    (w.extractLsb' start len).toNat = w.toNat / 2 ^ start % 2 ^ len := by
  rw [BitVec.extractLsb'_toNat, Nat.shiftRight_eq_div_pow]

/-- The opcode is what stands above bit 39: a word has no bit above 47, so the quotient already fits into 8 bits. -/
theorem opcodeField_toNat (w : Slot) : (opcodeField w).toNat = w.toNat / 2 ^ 40 := by
  have hfits : w.toNat / 2 ^ 40 < 2 ^ 8 := Nat.div_lt_of_lt_mul w.isLt
  rw [opcodeField, toNat_extractLsb'_eq_div_mod, Nat.mod_eq_of_lt hfits]

/-- The last field starts at bit 0, so nothing is shifted out below it. -/
theorem fieldsOf_imm2_toNat (w : Slot) : (fieldsOf w).imm2.toNat = w.toNat % 4096 := by
  have hfield : (fieldsOf w).imm2.toNat = w.toNat / 2 ^ 0 % 2 ^ 12 := toNat_extractLsb'_eq_div_mod w 0 12
  rwa [pow_zero, Nat.div_one] at hfield

/-- Settles O4: each field by the general reading of a bit range; only the opcode and the last field are special. -/
theorem fieldsStandAtTheirBits : Obligations.FieldsStandAtTheirBits := fun w =>
  ⟨opcodeField_toNat w,
   toNat_extractLsb'_eq_div_mod w 36 4,
   toNat_extractLsb'_eq_div_mod w 32 4,
   toNat_extractLsb'_eq_div_mod w 28 4,
   toNat_extractLsb'_eq_div_mod w 24 4,
   toNat_extractLsb'_eq_div_mod w 12 12,
   fieldsOf_imm2_toNat w⟩

/-! ### Packing the fields -/

/-- Packing the fields a word carries gives the word: each field ends where the next one begins, so the seven ranges join,
from the left, to bits 47:0. -/
@[simp] theorem packFields_fieldsOf (w : Slot) : packFields (opcodeField w) (fieldsOf w) = w := by
  have hopcode_to_rd : opcodeField w ++ (fieldsOf w).rd = w.extractLsb' 36 12 :=
    BitVec.extractLsb'_append_extractLsb'_eq_extractLsb' rfl
  have hto_rs : w.extractLsb' 36 12 ++ (fieldsOf w).rs = w.extractLsb' 32 16 :=
    BitVec.extractLsb'_append_extractLsb'_eq_extractLsb' rfl
  have hto_rt : w.extractLsb' 32 16 ++ (fieldsOf w).rt = w.extractLsb' 28 20 :=
    BitVec.extractLsb'_append_extractLsb'_eq_extractLsb' rfl
  have hto_rm : w.extractLsb' 28 20 ++ (fieldsOf w).rm = w.extractLsb' 24 24 :=
    BitVec.extractLsb'_append_extractLsb'_eq_extractLsb' rfl
  have hto_imm1 : w.extractLsb' 24 24 ++ (fieldsOf w).imm1 = w.extractLsb' 12 36 :=
    BitVec.extractLsb'_append_extractLsb'_eq_extractLsb' rfl
  have hto_imm2 : w.extractLsb' 12 36 ++ (fieldsOf w).imm2 = w.extractLsb' 0 48 :=
    BitVec.extractLsb'_append_extractLsb'_eq_extractLsb' rfl
  rw [packFields, hopcode_to_rd, hto_rs, hto_rt, hto_rm, hto_imm1, hto_imm2, BitVec.extractLsb'_eq_self]

/-- Sign extension keeps the low 12 bits (R97). -/
@[simp] theorem extractLsb'_sext32 (v : Imm) : (sext32 v).extractLsb' 0 12 = v := by
  ext i hi
  have hword : i < 32 := by omega
  rw [BitVec.getElem_extractLsb', sext32, zero_add, BitVec.getLsbD_signExtend]
  simp [hi, hword]

/-! ### The decoder -/

@[simp] theorem Op.op_toInstr (o : Op) (f : Fields) : (o.toInstr f).op = o := by cases o <;> rfl

@[simp] theorem Op.fields_toInstr (o : Op) (f : Fields) : (o.toInstr f).fields = f := by cases o <;> rfl

/-- The decoder answers an instruction exactly when the opcode numbers an operation of the map (R96, R102). -/
theorem decode_eq_ok_iff {m : OpcodeMap} {w : Slot} {i : Instr} :
    decode m w = .ok i ↔ ∃ o, m[(opcodeField w).toNat]? = some o ∧ o.toInstr (fieldsOf w) = i := by
  unfold decode
  cases m[(opcodeField w).toNat]? <;> simp

/-- A map without repeats gives back the number an operation was found under. -/
theorem ofNat_idxOf_of_getElem? {m : OpcodeMap} (hnodup : m.Nodup) {opcode : BitVec 8} {o : Op}
    (hentry : m[opcode.toNat]? = some o) : BitVec.ofNat 8 (m.idxOf o) = opcode := by
  obtain ⟨hlt, rfl⟩ := List.getElem?_eq_some_iff.mp hentry
  rw [hnodup.idxOf_getElem _ hlt, BitVec.ofNat_toNat, BitVec.setWidth_eq]

/-- The instruction a word decodes to has that word as its encoding. -/
theorem encode_of_decode {m : OpcodeMap} (hnodup : m.Nodup) {w : Slot} {i : Instr} (hdecode : decode m w = .ok i) :
    encode m i = w := by
  obtain ⟨o, hentry, rfl⟩ := decode_eq_ok_iff.mp hdecode
  rw [encode, Op.op_toInstr, Op.fields_toInstr, ofNat_idxOf_of_getElem? hnodup hentry, packFields_fieldsOf]

/-- Settles O3: sign extension loses nothing of an immediate and the fields pack to the word; for `encode`, the number of
the decoded operation is the opcode the word carries. -/
theorem encodeInvertsDecode : Obligations.EncodeInvertsDecode := by
  refine ⟨fun w => ?_, fun m hnodup w i hdecode => encode_of_decode hnodup hdecode⟩
  rw [extractLsb'_sext32, extractLsb'_sext32]
  exact packFields_fieldsOf w

end Sys2Proof
end

section
/-!
The instruction trace over one cycle (40_cycle_engine.md R125): phase P5 appends the cycle's event, and no other phase
writes to that stream, whichever way the cycle ends.
-/

namespace Sys2Proof.Machine

/-! ### The state after phases P1 to P5 -/

/-- What the instruction, and the trace event, reads of each register: only phase P4 has written any (R124). -/
theorem State.readReg_prepared (s : State) (r : RegIdx) :
    s.prepared.readReg r =
      if r = 1 then sext32 (fieldsOf s.fetch).imm1
      else if r = 2 then sext32 (fieldsOf s.fetch).imm2
      else s.readReg r :=
  s.beginCycle.readReg_loadImmediates (fieldsOf s.fetch).imm1 (fieldsOf s.fetch).imm2 r

/-- Phase P5 emits after the immediates are loaded, so its snapshot is the one the instruction starts with (R125). -/
theorem State.prepared_instrTrace (s : State) :
    s.prepared.obs.instrTrace = s.obs.instrTrace ++ [⟨s.pc, s.fetch, s.prepared.regSnapshot⟩] := rfl

/-! ### The other events go to other streams (R270) -/

@[simp] theorem State.emitHw_instrTrace (s : State) (dir : TraceDir) (a : IorIdx) (v : Word) :
    (s.emitHw dir a v).obs.instrTrace = s.obs.instrTrace := rfl

@[simp] theorem State.emitLed_instrTrace (s : State) (v : Word) :
    (s.emitLed v).obs.instrTrace = s.obs.instrTrace := rfl

@[simp] theorem State.emitSeg_instrTrace (s : State) (v : Word) :
    (s.emitSeg v).obs.instrTrace = s.obs.instrTrace := rfl

@[simp] theorem State.report_instrTrace (s : State) (k : ErrorKind) (info : Word) :
    (s.report k info).obs.instrTrace = s.obs.instrTrace := rfl

@[simp] theorem State.ioAddressError_instrTrace (s : State) (ioa : Word) :
    (s.ioAddressError ioa).obs.instrTrace = s.obs.instrTrace := rfl

@[simp] theorem State.addressFault_instrTrace (s : State) (ea : Word) :
    (s.addressFault ea).obs.instrTrace = s.obs.instrTrace := by
  unfold State.addressFault
  cases s.params.faultPolicy with
  | hardFault => rfl
  | legacyStall => rfl

@[simp] theorem State.emitReti_instrTrace (s : State) (a : IorIdx) :
    (s.emitReti a).obs.instrTrace = s.obs.instrTrace := by
  unfold State.emitReti
  split
  · rfl
  · exact s.emitHw_instrTrace _ a _

@[simp] theorem State.ioRead_obs (s : State) (a : IorIdx) : (s.ioRead a).2.obs = s.obs := by
  unfold State.ioRead
  split
  · exact s.setIor_obs _ _
  · rfl

/-! ### Phases P6 to P11 -/

/-- No instruction writes to the instruction trace: its own event is the one of phase P5. -/
theorem exec_keeps_instrTrace {i : Instr} {s u : State} (hexec : exec i s = .next u) :
    u.obs.instrTrace = s.obs.instrTrace := by
  cases exec_cases hexec with
  | alu _ _ hu | branch _ _ hu | jal _ _ hu | load _ _ _ hu | store _ _ _ hu
  | addressFault _ _ hu | ioError _ _ hu | reti _ _ _ hu | ioIn _ _ _ hu
  | outPlain _ _ _ hu | outLed _ _ hu | outSeg _ _ hu | outCommit _ _ _ hu
  | outLaunch _ _ _ _ _ _ hu | outFault _ _ _ _ _ hu | halted _ _ hu | parked _ _ hu => simp [hu]

/-- The rest of the cycle emits no event of any stream (R270). -/
@[simp] theorem State.finish_obs (s : State) : s.finish.obs = s.obs := by
  rcases s.finish_cases with ⟨-, hfinish⟩ | ⟨-, hfinish⟩ <;> rw [hfinish]
  obtain ⟨-, -, -, -, -, -, hobs, -⟩ := s.endCycle_frame
  exact hobs

/-! ### The whole cycle -/

/-- After phase P5 the instruction trace stays as it is to the end of the cycle. -/
theorem step_instrTrace {s t : State} (hrun : s.runState = .running) (hstep : step s = .next t) :
    t.obs.instrTrace = s.prepared.obs.instrTrace := by
  rcases step_cases hstep with ⟨hhalted, -⟩ | ⟨-, _, -, rfl⟩ | ⟨-, _, u, -, hexec, rfl⟩
  · rw [hrun] at hhalted
    cases hhalted
  · rw [State.raiseFault_obs]
  · rw [State.finish_obs, exec_keeps_instrTrace hexec]

/-- Settles O9: the event of phase P5 is the only one of the cycle, and its snapshot holds what each register reads as
once phase P4 has loaded the immediates. -/
theorem everyCycleTracesItsInstruction : Obligations.EveryCycleTracesItsInstruction := by
  intro s t hrun hstep
  refine ⟨s.prepared.regSnapshot, ?_, fun r => ?_⟩
  · rw [step_instrTrace hrun hstep, State.prepared_instrTrace]
  · rw [State.regSnapshot_getElem, State.readReg_prepared]

end Sys2Proof.Machine
end

section
/-!
Arithmetic and logic (41_arith_logic.md R150 to R156): the whole effect of the end the nine instructions share, then the word
each of `add`, `sub`, `and`, `or` and `xor` gives it.
-/

namespace Sys2Proof.Machine

/-! ### The common end of the nine (R150) -/

/-- A register write by R10, the hardwired register 0 included. -/
theorem State.writeReg_regWritten (s : State) (rd : RegIdx) (v : Word) : s.RegWritten (s.writeReg rd v) rd v := by
  refine ⟨?_, fun r hne => ?_⟩
  · simp only [State.readReg_writeReg, true_and, ← s.isHardwired_iff]
    cases s.isHardwired rd with
    | false => rfl
    | true => rfl
  · rw [State.readReg_writeReg, if_neg fun h => hne h.1]

/-- Outside the registers and the pc, the common end changes nothing. -/
theorem State.aluResult_sameRest (s : State) (rd : RegIdx) (v : Word) : s.SameRest (s.aluResult rd v) := by
  simp [State.aluResult, State.SameRest, State.SameMemories, State.SameIor, State.SameHidden]

/-- The common end of the nine has the whole effect of an instruction that writes a register and goes on. -/
theorem State.aluResult_writesReg (s : State) (rd : RegIdx) (v : Word) : s.WritesReg (s.aluResult rd v) rd v :=
  ⟨s.writeReg_regWritten rd v, s.nextPc_toNat, s.aluResult_sameRest rd v⟩

/-- An instruction that ends in `aluResult` with a word answers a next state that has that word written. -/
theorem exec_writesReg {i : Instr} {s : State} {rd : RegIdx} {v : Word} (hexec : exec i s = .next (s.aluResult rd v)) :
    ∃ t, exec i s = .next t ∧ s.WritesReg t rd v :=
  ⟨s.aluResult rd v, hexec, s.aluResult_writesReg rd v⟩

/-! ### The word each instruction writes -/

section
variable (rd rs rt rm : RegIdx) (i1 i2 : Imm) (s : State)

theorem exec_add : exec (.add rd rs rt rm i1 i2) s =
    .next (s.aluResult rd (s.readReg rs + s.readReg rt + s.readReg rm)) := rfl

theorem exec_sub : exec (.sub rd rs rt rm i1 i2) s =
    .next (s.aluResult rd (s.readReg rs - s.readReg rt - s.readReg rm)) := rfl

theorem exec_and : exec (.and rd rs rt rm i1 i2) s =
    .next (s.aluResult rd (s.readReg rs &&& s.readReg rt &&& s.readReg rm)) := rfl

theorem exec_or : exec (.or rd rs rt rm i1 i2) s =
    .next (s.aluResult rd (s.readReg rs ||| s.readReg rt ||| s.readReg rm)) := rfl

theorem exec_xor : exec (.xor rd rs rt rm i1 i2) s =
    .next (s.aluResult rd (s.readReg rs ^^^ s.readReg rt ^^^ s.readReg rm)) := rfl

end

/-- The sum of three words is the sum of their numbers modulo 2^32 (R8). -/
theorem ofNat_add_add (a b c : Word) : BitVec.ofNat 32 (a.toNat + b.toNat + c.toNat) = a + b + c := by
  simp only [BitVec.ofNat_add, BitVec.ofNat_toNat, BitVec.setWidth_eq]

/-- The difference of three words is the difference of their numbers modulo 2^32 (R8). -/
theorem ofInt_sub_sub (a b c : Word) : BitVec.ofInt 32 ((a.toNat : Int) - b.toNat - c.toNat) = a - b - c := by
  simp only [sub_eq_add_neg, BitVec.ofInt_add, BitVec.ofInt_neg, BitVec.ofInt_natCast, BitVec.ofNat_toNat, BitVec.setWidth_eq]

/-! ### The obligations -/

/-- Settles O14: `add` ends in the shared write and advance, with the sum of the three words. -/
theorem addWritesTheSum : Obligations.AddWritesTheSum := by
  intro s rd rs rt rm i1 i2
  rw [ofNat_add_add]
  exact exec_writesReg (exec_add rd rs rt rm i1 i2 s)

/-- Settles O15: `sub` ends in the shared write and advance, with both `x[rt]` and `x[rm]` subtracted. -/
theorem subWritesTheDifference : Obligations.SubWritesTheDifference := by
  intro s rd rs rt rm i1 i2
  rw [ofInt_sub_sub]
  exact exec_writesReg (exec_sub rd rs rt rm i1 i2 s)

/-- Settles O17: each of the three ends in the shared write and advance, with its own combination of all three words. -/
theorem bitwiseWriteAllThree : Obligations.BitwiseWriteAllThree := fun s rd rs rt rm i1 i2 =>
  ⟨exec_writesReg (exec_and rd rs rt rm i1 i2 s),
   exec_writesReg (exec_or rd rs rt rm i1 i2 s),
   exec_writesReg (exec_xor rd rs rt rm i1 i2 s)⟩

end Sys2Proof.Machine
end

section
/-!
Branches (42_branch_jump.md R170 to R172, R178): the whole effect of the common form of the six, then the condition under which
`beq` and `bne` take the target.
-/

namespace Sys2Proof.Machine

/-! ### The common form of the six (R170) -/

/-- The register target as a number (R178). -/
theorem State.branchTarget_toNat (s : State) (rm : RegIdx) : (s.branchTarget rm).toNat = (s.readReg rm).toNat % 4096 :=
  low12_toNat (s.readReg rm)

/-- Setting the pc changes nothing else. -/
theorem State.setPc_onlyPc (s : State) (p : PcWord) : s.OnlyPc (s.setPc p) p.toNat := by
  simp [State.OnlyPc, State.SameRegs, State.SameRest, State.SameMemories, State.SameIor, State.SameHidden]

/-- A branch only sets the pc: to the low 12 bits of `x[rm]` where its condition holds, else to the next instruction. -/
theorem State.branchIf_onlyPc (s : State) (taken : Bool) (rm : RegIdx) :
    s.OnlyPc (s.branchIf taken rm) (if taken then (s.readReg rm).toNat % 4096 else (s.pc.toNat + 1) % 4096) := by
  rw [← s.branchTarget_toNat, ← s.nextPc_toNat, ← apply_ite BitVec.toNat]
  exact s.setPc_onlyPc _

/-- An instruction that ends in `branchIf` answers a next state with the pc alone set, by the proposition its condition
decides. -/
theorem exec_onlyPc {i : Instr} {s : State} {taken : Bool} {rm : RegIdx} {p : Prop} [Decidable p]
    (hexec : exec i s = .next (s.branchIf taken rm)) (htaken : taken = true ↔ p) :
    ∃ t, exec i s = .next t ∧
      s.OnlyPc t (if p then (s.readReg rm).toNat % 4096 else (s.pc.toNat + 1) % 4096) := by
  rw [← if_congr htaken rfl rfl]
  exact ⟨s.branchIf taken rm, hexec, s.branchIf_onlyPc taken rm⟩

/-! ### The conditions of `beq` and `bne` -/

theorem condEq_iff {a b : Word} : condEq a b = true ↔ a = b := beq_iff_eq

theorem condNe_iff {a b : Word} : condNe a b = true ↔ ¬ a = b := bne_iff_ne

section
variable (rd rs rt rm : RegIdx) (i1 i2 : Imm) (s : State)

theorem exec_beq : exec (.beq rd rs rt rm i1 i2) s =
    .next (s.branchIf (condEq (s.readReg rs) (s.readReg rt)) rm) := rfl

theorem exec_bne : exec (.bne rd rs rt rm i1 i2) s =
    .next (s.branchIf (condNe (s.readReg rs) (s.readReg rt)) rm) := rfl

end

/-! ### The obligations -/

/-- Settles O19: `beq` ends in the common form, with the equality of the two words as its condition. -/
theorem beqSetsThePc : Obligations.BeqSetsThePc := by
  intro s rd rs rt rm i1 i2
  exact exec_onlyPc (exec_beq rd rs rt rm i1 i2 s) condEq_iff

/-- Settles O20: `bne` ends in the common form too; its condition is the negation, so the two ends change places. -/
theorem bneSetsThePc : Obligations.BneSetsThePc := by
  intro s rd rs rt rm i1 i2
  rw [← ite_not]
  exact exec_onlyPc (exec_bne rd rs rt rm i1 i2 s) condNe_iff

end Sys2Proof.Machine
end

section
/-!
Interrupt entry (60_exceptions.md R230 to R233): when phase P10 enters, what the entry leaves in each word of the bank, and what
it leaves alone.
-/

namespace Sys2Proof.Machine

/-! ### Program counters and words -/

/-- Zero extension keeps the number of a program counter (R8). -/
theorem zext32_toNat (p : PcWord) : (zext32 p).toNat = p.toNat :=
  BitVec.toNat_setWidth_of_le (by decide)

/-- The handler address as a number (10_state.md R33). -/
theorem State.handlerPc_toNat (s : State) : s.handlerPc.toNat = (s.getIor Ior.irqhandler).toNat % 4096 :=
  low12_toNat (s.getIor Ior.irqhandler)

/-! ### The words of the bank after an entry (R233) -/

/-- The enable word and the status word of each of the three interrupt sources (R230). -/
def interruptSources : List (IorIdx × IorIdx) :=
  [(Ior.irq0enable, Ior.irq0status), (Ior.irq1enable, Ior.irq1status), (Ior.irq2enable, Ior.irq2status)]

/-- A source's status word survives exactly where the source does not contribute: the entry's clears are of three different
words, so each is decided by its own source. -/
theorem State.takeInterrupt_getIor_status (s : State) {enable status : IorIdx}
    (hsource : (enable, status) ∈ interruptSources) :
    s.takeInterrupt.getIor status = if s.getIor enable &&& s.getIor status = 0 then s.getIor status else 0 := by
  simp only [interruptSources, List.mem_cons, Prod.mk.injEq, List.not_mem_nil, or_false] at hsource
  rcases hsource with ⟨rfl, rfl⟩ | ⟨rfl, rfl⟩ | ⟨rfl, rfl⟩ <;>
    simp [State.getIor_takeInterrupt, State.contribution]

/-- The return register holds the pc the entry found. -/
theorem State.takeInterrupt_getIor_irqreturn (s : State) : s.takeInterrupt.getIor Ior.irqreturn = zext32 s.pc := by
  rw [State.getIor_takeInterrupt, if_pos rfl]

/-- The return register and the three status words are the only words an entry writes. -/
theorem State.takeInterrupt_getIor_of_ne (s : State) {a : IorIdx} (h0 : a ≠ Ior.irq0status) (h1 : a ≠ Ior.irq1status)
    (h2 : a ≠ Ior.irq2status) (hreturn : a ≠ Ior.irqreturn) : s.takeInterrupt.getIor a = s.getIor a := by
  simp [State.getIor_takeInterrupt, h0, h1, h2, hreturn]

/-- Outside the pc and the bank an entry changes nothing (R233). -/
theorem State.takeInterrupt_frame (s : State) :
    s.SameRegs s.takeInterrupt ∧ s.SameMemories s.takeInterrupt ∧ s.SameHidden s.takeInterrupt ∧
      s.takeInterrupt.runState = s.runState ∧ s.takeInterrupt.obs = s.obs := by
  simp [State.SameRegs, State.SameMemories, State.SameHidden]

/-! ### When phase P10 enters -/

/-- A raised line and a pc away from the handler: phase P10 is the entry (R230, R232). -/
theorem State.interruptStep_eq_takeInterrupt {s : State} (hraised : s.interruptLine ≠ 0) (haway : s.pc ≠ s.handlerPc) :
    s.interruptStep = s.takeInterrupt := by
  rcases s.interruptStep_cases with ⟨-, -, hentry⟩ | ⟨hline | hat, -⟩
  · exact hentry
  · exact absurd hline hraised
  · exact absurd hat haway

/-- Settles O36: the line is the disjunction of the statement's three words, so phase P10 is the entry; each clause is then the
entry's own lemma about that word or part of the state. -/
theorem interruptEntrySavesAndClears : Obligations.InterruptEntrySavesAndClears := by
  intro s hline hpc
  have hraised : s.interruptLine ≠ 0 := hline
  have haway : s.pc ≠ s.handlerPc := fun hat => hpc (hat ▸ s.handlerPc_toNat)
  rw [State.interruptStep_eq_takeInterrupt hraised haway]
  refine ⟨?_, s.handlerPc_toNat, s.takeInterrupt_getIor_status (by decide), s.takeInterrupt_getIor_status (by decide),
    s.takeInterrupt_getIor_status (by decide), fun a h0 h1 h2 hreturn => s.takeInterrupt_getIor_of_ne h0 h1 h2 hreturn,
    s.takeInterrupt_frame⟩
  exact (congrArg BitVec.toNat s.takeInterrupt_getIor_irqreturn).trans (zext32_toNat s.pc)

end Sys2Proof.Machine
end

section
/-!
I/O addresses outside the bank (44_io_system.md R201, 60_exceptions.md R225): what the report does, then that `in`, `out` and
`reti` all end in it.
-/

namespace Sys2Proof.Machine

/-- The whole effect of an I/O address above 22: a report that carries the address and the pc before the advance. -/
theorem State.ioAddressError_effect (s : State) (ioa : Word) :
    s.Advances (s.ioAddressError ioa) ∧ s.Reports (s.ioAddressError ioa) .ioAddressError ioa ∧
      s.SameRegs (s.ioAddressError ioa) ∧ s.SameMemories (s.ioAddressError ioa) ∧ s.SameIor (s.ioAddressError ioa) ∧
      s.SameHidden (s.ioAddressError ioa) ∧ (s.ioAddressError ioa).runState = s.runState := by
  refine ⟨s.nextPc_toNat, rfl, ?_⟩
  simp [State.SameRegs, State.SameMemories, State.SameIor, State.SameHidden]

section
variable (rd rs rt rm : RegIdx) (i1 i2 : Imm) {s : State}

theorem exec_ioIn_of_ioAddr_gt (haddr : 22 < (s.ioAddr rs rt).toNat) :
    exec (.ioIn rd rs rt rm i1 i2) s = .next (s.ioAddressError (s.ioAddr rs rt)) := by
  simp only [exec, execIn, ioSlot_eq_none.mpr haddr]

theorem exec_ioOut_of_ioAddr_gt (haddr : 22 < (s.ioAddr rs rt).toNat) :
    exec (.ioOut rd rs rt rm i1 i2) s = .next (s.ioAddressError (s.ioAddr rs rt)) := by
  simp only [exec, execOut, ioSlot_eq_none.mpr haddr]

theorem exec_reti_of_ioAddr_gt (haddr : 22 < (s.ioAddr rs rt).toNat) :
    exec (.reti rd rs rt rm i1 i2) s = .next (s.ioAddressError (s.ioAddr rs rt)) := by
  simp only [exec, execReti, ioSlot_eq_none.mpr haddr]

end

/-- Settles O26: the range check stands before everything else in each of the three, and all of them end in the same report;
neither mentions the fault policy. -/
theorem ioAddressAboveTwentyTwoIsANop : Obligations.IoAddressAboveTwentyTwoIsANop := by
  intro s rd rs rt rm i1 i2 haddr i hi
  have hexec : exec i s = .next (s.ioAddressError (s.ioAddr rs rt)) := by
    simp only [List.mem_cons, List.not_mem_nil, or_false] at hi
    rcases hi with rfl | rfl | rfl
    · exact exec_ioIn_of_ioAddr_gt rd rs rt rm i1 i2 haddr
    · exact exec_ioOut_of_ioAddr_gt rd rs rt rm i1 i2 haddr
    · exact exec_reti_of_ioAddr_gt rd rs rt rm i1 i2 haddr
  exact ⟨s.ioAddressError (s.ioAddr rs rt), hexec, s.ioAddressError_effect (s.ioAddr rs rt)⟩

end Sys2Proof.Machine
end

section
/-!
Reset (70_reset_and_hazards.md R290, R291, R296): what a memory made from an image reads as, what the bank and the registers
read as at reset, and the state a boot answers.
-/

namespace Sys2Proof.Machine

/-! ### Reading an image (R296) -/

/-- Entry `k` of an image stands at location `lo + k`. An entry equal to 0 is left out of the list, so there the read must
find nothing further on either. -/
theorem Memory.read_ofImageFrom {w : Nat} (lo : Nat) (vs : List (BitVec w)) (k : Nat) :
    (Memory.ofImageFrom lo vs).read (lo + k) = vs.getD k 0 := by
  induction vs generalizing lo k with
  | nil => rfl
  | cons v vs ih =>
    have htail : ∀ j, (Memory.ofImageFrom (lo + 1) vs).read (lo + (j + 1)) = vs.getD j 0 := fun j => by
      rw [← ih (lo + 1) j, Nat.add_assoc, Nat.add_comm 1 j]
    unfold Memory.ofImageFrom
    split
    case isTrue hzero =>
      cases k with
      | zero =>
        have hwf := Memory.ofImageFrom_wf (lo + 1) (lo + 1 + vs.length) vs le_rfl
        exact (Memory.read_below hwf (Nat.lt_succ_self lo)).trans hzero.symm
      | succ j => exact htail j
    case isFalse =>
      cases k with
      | zero => exact if_pos rfl
      | succ j => rw [Memory.read_cons, if_neg (by omega), htail, List.getD_cons_succ]

/-- A memory made from an image reads as the image, and as 0 where the image has no entry. -/
@[simp] theorem Memory.read_ofImage {w : Nat} (vs : List (BitVec w)) (k : Nat) :
    (Memory.ofImage vs).read k = vs.getD k 0 := by
  have hread := Memory.read_ofImageFrom 0 vs k
  rwa [Nat.zero_add] at hread

/-! ### Registers and words of the bank at 0 -/

/-- A cleared register file reads as 0 everywhere, whether or not register 0 is hardwired. -/
theorem State.readReg_of_regs_cleared {s : State} (hregs : s.regs = Vector.replicate 16 0) (r : RegIdx) :
    s.readReg r = 0 := by
  unfold State.readReg
  split
  · rfl
  · simp only [hregs, Vector.getElem_replicate]

theorem State.getIor_of_ior_cleared {s : State} (hior : s.ior = Vector.replicate 23 0) (a : IorIdx) :
    s.getIor a = 0 := by
  simp only [State.getIor, hior, Vector.getElem_replicate]

/-! ### The boot (R290) -/

/-- A boot answers a state exactly when the images fit and the parameters are in their domain, and the state is then the
reset state with the parameters and the images put in. -/
theorem State.boot_eq_ok_iff {p : Params} {im : Images} {s : State} :
    State.boot p im = .ok s ↔
      im.fit = true ∧ p.wf = true ∧
        { State.reset with
          params := p
          imem := Memory.ofImage im.imem
          dmem := Memory.ofImage im.dmem
          disk := Memory.ofImage im.disk } = s := by
  unfold State.boot
  cases im.fit with
  | false => simp
  | true =>
    cases p.wf with
    | false => simp
    | true => simp

/-- Settles O44: the state a boot answers has the fields of the reset state, and each of its three memories is made from its
image. -/
theorem bootGivesEveryStateItsResetValue : Obligations.BootGivesEveryStateItsResetValue := by
  intro p im s hboot
  obtain ⟨-, -, rfl⟩ := State.boot_eq_ok_iff.mp hboot
  exact ⟨State.readReg_of_regs_cleared rfl, State.getIor_of_ior_cleared rfl, rfl, rfl, rfl, rfl, Memory.read_nil, rfl, rfl,
    Memory.read_ofImage im.imem, Memory.read_ofImage im.dmem,
    fun n i _ => Memory.read_ofImage im.disk (diskAddr n i)⟩

end Sys2Proof.Machine
end

section
/-!
The other direction of the round trip (30_encoding.md R91, R96, R97): what stands in a packed word, which number a map gives an
operation, and what the decoder answers for an opcode inside or outside the map.
-/

namespace Sys2Proof

/-! ### Reading a packed word -/

/-- The opcode stands above all six fields of a packed word. -/
@[simp] theorem opcodeField_packFields (opcode : BitVec 8) (f : Fields) : opcodeField (packFields opcode f) = opcode := by
  unfold opcodeField packFields
  iterate 6 rw [BitVec.extractLsb'_append_eq_of_le (by decide)]
  exact BitVec.extractLsb'_eq_self

/-- Each field of a packed word is the lowest one once the fields below it, five for `rd` down to none for `imm2`, are shifted
out. -/
@[simp] theorem fieldsOf_packFields (opcode : BitVec 8) (f : Fields) : fieldsOf (packFields opcode f) = f := by
  simp only [fieldsOf, packFields]
  congr 1
  case e_rd =>
    iterate 5 rw [BitVec.extractLsb'_append_eq_of_le (by decide)]
    exact BitVec.extractLsb'_append_eq_right
  case e_rs =>
    iterate 4 rw [BitVec.extractLsb'_append_eq_of_le (by decide)]
    exact BitVec.extractLsb'_append_eq_right
  case e_rt =>
    iterate 3 rw [BitVec.extractLsb'_append_eq_of_le (by decide)]
    exact BitVec.extractLsb'_append_eq_right
  case e_rm =>
    iterate 2 rw [BitVec.extractLsb'_append_eq_of_le (by decide)]
    exact BitVec.extractLsb'_append_eq_right
  case e_imm1 =>
    rw [BitVec.extractLsb'_append_eq_of_le (by decide)]
    exact BitVec.extractLsb'_append_eq_right
  case e_imm2 => exact BitVec.extractLsb'_append_eq_right

/-! ### Numbers of operations -/

/-- The operation and the six fields determine the instruction (R91). -/
@[simp] theorem Instr.toInstr_op_fields (i : Instr) : i.op.toInstr i.fields = i := by cases i <;> rfl

theorem Instr.wf_iff {m : OpcodeMap} {i : Instr} : i.wf m = true ↔ i.op ∈ m := List.contains_iff_mem

/-- In a map of at most 256 entries the number of an operation fits the opcode field. -/
theorem toNat_ofNat_idxOf {m : OpcodeMap} (hfits : m.length ≤ 256) {o : Op} (ho : o ∈ m) :
    (BitVec.ofNat 8 (m.idxOf o)).toNat = m.idxOf o := by
  have hlt : m.idxOf o < m.length := List.idxOf_lt_length_iff.mpr ho
  rw [BitVec.toNat_ofNat, Nat.mod_eq_of_lt (by omega)]

/-- Settles O1: the packed word gives back the number and the fields, and the entry under that number is the operation. -/
theorem decodeInvertsEncode : Obligations.DecodeInvertsEncode := by
  intro m hfits i hwf
  have hop : i.op ∈ m := Instr.wf_iff.mp hwf
  refine decode_eq_ok_iff.mpr ⟨i.op, ?_, ?_⟩
  · rw [encode, opcodeField_packFields, toNat_ofNat_idxOf hfits hop, List.getElem?_idxOf hop]
  · rw [encode, fieldsOf_packFields, Instr.toInstr_op_fields]

/-! ### The default map and the bijective ones -/

/-- The default map lists every operation (R98). -/
theorem mem_defaultOpcodeMap (o : Op) : o ∈ defaultOpcodeMap := by cases o <;> decide

/-- 22 entries without repeats leave no operation out: they are the default map in another order. -/
theorem mem_of_opcodeMap_wf {m : OpcodeMap} (hwf : m.wf = true) (o : Op) : o ∈ m := by
  obtain ⟨hlength, hnodup⟩ : m.length = 22 ∧ m.Nodup := by simpa [OpcodeMap.wf] using hwf
  have hsub : List.Subperm m defaultOpcodeMap := List.subperm_of_subset hnodup fun o _ => mem_defaultOpcodeMap o
  have hperm : m.Perm defaultOpcodeMap := hsub.perm_of_length_le hlength.ge
  exact hperm.mem_iff.mpr (mem_defaultOpcodeMap o)

/-- Settles O2: a bijective map is a rearrangement of the default one, so it lists the operation of every instruction. -/
theorem bijectiveMapsNumberEveryInstruction : Obligations.BijectiveMapsNumberEveryInstruction :=
  ⟨by decide, fun _ hwf i => Instr.wf_iff.mpr (mem_of_opcodeMap_wf hwf i.op)⟩

/-- An opcode past the end of the map has no operation (R102). -/
theorem decode_of_length_le {m : OpcodeMap} {w : Slot} (hpast : m.length ≤ (opcodeField w).toNat) :
    decode m w = .error (.unassignedOpcode (opcodeField w)) := by
  simp only [decode, List.getElem?_eq_none hpast]

/-- Settles O5: the default map has exactly the entries 0 to 21. -/
theorem opcodesAboveTwentyOneAreUnassigned : Obligations.OpcodesAboveTwentyOneAreUnassigned := by
  refine fun w => ⟨fun hassigned => ?_, fun hpast => decode_of_length_le hpast⟩
  have hlt : (opcodeField w).toNat < defaultOpcodeMap.length := Nat.lt_succ_of_le hassigned
  have hentry := List.getElem?_eq_getElem hlt
  exact ⟨_, decode_eq_ok_iff.mpr ⟨_, hentry, rfl⟩, Op.fields_toInstr _ _, by rw [Op.op_toInstr, hentry]⟩

/-- Settles O6: the thirteen words are closed, so the decoder evaluates. -/
theorem wordsOfTheSpecDecode : Obligations.WordsOfTheSpecDecode :=
  ⟨rfl, rfl, rfl, rfl, rfl, rfl, rfl, rfl, rfl, rfl, rfl, rfl, rfl⟩

end Sys2Proof
end

section
/-!
The cycle around an instruction (40_cycle_engine.md R120 to R125, R133, R136): what phases P1 to P5 leave of each part of the
state, and what a step answers when its word has an operation, when it has none, and from a terminal state.
-/

namespace Sys2Proof.Machine

/-! ### Frames from equal fields -/

theorem State.sameMemories_of_eq {s t : State} (himem : t.imem = s.imem) (hdmem : t.dmem = s.dmem)
    (hdisk : t.disk = s.disk) (hfb : t.fb = s.fb) : s.SameMemories t := by
  simp [State.SameMemories, State.readDmem, State.readFb, himem, hdmem, hdisk, hfb]

/-- Reads of registers depend on the register file and on the parameter that hardwires register 0. -/
theorem State.sameRegs_of_eq {s t : State} (hparams : t.params = s.params) (hregs : t.regs = s.regs) : s.SameRegs t := by
  intro r
  have hhard : t.isHardwired r = s.isHardwired r := by simp only [State.isHardwired, hparams]
  rw [State.readReg, State.readReg, hhard, hregs]

/-! ### Phases P1 to P5 -/

@[simp] theorem State.prepared_frame (s : State) :
    s.prepared.params = s.params ∧ s.prepared.pc = s.pc ∧ s.prepared.imem = s.imem ∧ s.prepared.dmem = s.dmem ∧
      s.prepared.disk = s.disk ∧ s.prepared.fb = s.fb ∧ s.prepared.diskTimer = s.diskTimer ∧
      s.prepared.schedPtr = s.schedPtr ∧ s.prepared.cycle = s.cycle ∧ s.prepared.runState = s.runState ∧
      s.prepared.issuedThisCycle = false :=
  ⟨rfl, rfl, rfl, rfl, rfl, rfl, rfl, rfl, rfl, rfl, rfl⟩

theorem State.prepared_sameMemories (s : State) : s.SameMemories s.prepared :=
  State.sameMemories_of_eq rfl rfl rfl rfl

/-- The bank an instruction finds: `clks` and `irq2status` are the two words phases P1 and P2 write (R121, R122). -/
theorem State.getIor_prepared (s : State) (a : IorIdx) :
    s.prepared.getIor a =
      if a = Ior.irq2status then 0 else if a = Ior.clks then BitVec.ofNat 32 s.cycle else s.getIor a := by
  have hphases : s.prepared.getIor a =
      (((s.setIssued false).setIor Ior.clks (BitVec.ofNat 32 s.cycle)).setIor Ior.irq2status 0).getIor a := rfl
  rw [hphases, State.getIor_setIor, State.getIor_setIor, State.setIssued_getIor]

theorem State.getIor_prepared_of_ne (s : State) {a : IorIdx} (hclks : a ≠ Ior.clks) (hirq2 : a ≠ Ior.irq2status) :
    s.prepared.getIor a = s.getIor a := by
  rw [State.getIor_prepared, if_neg hirq2, if_neg hclks]

theorem State.getIor_prepared_clks (s : State) : (s.prepared.getIor Ior.clks).toNat = s.cycle % 2 ^ 32 := by
  rw [State.getIor_prepared, if_neg (by decide), if_pos rfl, BitVec.toNat_ofNat]

theorem State.getIor_prepared_irq2status (s : State) : s.prepared.getIor Ior.irq2status = 0 := by
  rw [State.getIor_prepared, if_pos rfl]

theorem State.readReg_prepared_one (s : State) : s.prepared.readReg 1 = sext32 (fieldsOf s.fetch).imm1 := by
  rw [State.readReg_prepared, if_pos rfl]

theorem State.readReg_prepared_two (s : State) : s.prepared.readReg 2 = sext32 (fieldsOf s.fetch).imm2 := by
  rw [State.readReg_prepared, if_neg (by decide), if_pos rfl]

theorem State.readReg_prepared_of_ne (s : State) {r : RegIdx} (h1 : r ≠ 1) (h2 : r ≠ 2) :
    s.prepared.readReg r = s.readReg r := by
  rw [State.readReg_prepared, if_neg h1, if_neg h2]

/-- Sign extension keeps the signed number of an immediate (R8, R93). -/
theorem sext32_toInt (v : Imm) : (sext32 v).toInt = v.toInt :=
  BitVec.toInt_signExtend_of_le (by decide)

/-- The instruction-trace event is the only one before phase P6. -/
theorem State.prepared_obs (s : State) : s.prepared.obs =
    { s.obs with instrTrace := s.obs.instrTrace ++ [⟨s.pc, s.fetch, s.prepared.regSnapshot⟩] } := rfl

/-- Settles O8: the two writes of the bank, the two of the register file, and the frame of the prepared state. -/
theorem phasesBeforeTheInstruction : Obligations.PhasesBeforeTheInstruction := by
  intro s
  refine ⟨?_, ?_, fun r => s.readReg_prepared_of_ne, s.getIor_prepared_clks, s.getIor_prepared_irq2status,
    fun a => s.getIor_prepared_of_ne, rfl, s.prepared_sameMemories, rfl, rfl, rfl, rfl, rfl, rfl, rfl⟩
  · rw [State.readReg_prepared_one, sext32_toInt]
  · rw [State.readReg_prepared_two, sext32_toInt]

/-! ### What a step answers -/

/-- A word with an operation: the step is the instruction on the prepared state, and the rest of the cycle (R126, R127). -/
theorem step_of_exec {s u : State} {i : Instr} (hruns : s.Runs i) (hexec : exec i s.prepared = .next u) :
    step s = .next u.finish := by
  obtain ⟨hrun, hdecode⟩ := hruns
  have hword : step s = s.prepared.executeWord s.fetch := by simp only [step, hrun]; rfl
  have hdecode : decode s.prepared.params.opcodeMap s.fetch = .ok i := hdecode
  simp only [hword, State.executeWord, hdecode, hexec]

/-- A word without an operation: the prepared state becomes FAULTED (R102, R126). -/
theorem step_of_decode_error {s : State} {e : DecodeError} (hrun : s.runState = .running)
    (hdecode : decode s.params.opcodeMap s.fetch = .error e) :
    step s = .next (s.prepared.raiseFault (.illegalOpcode s.pc s.fetch)) := by
  have hword : step s = s.prepared.executeWord s.fetch := by simp only [step, hrun]; rfl
  have hdecode : decode s.prepared.params.opcodeMap s.fetch = .error e := hdecode
  simp only [hword, State.executeWord, hdecode]
  rfl

theorem step_of_halted {s : State} (hhalted : s.runState = .halted) : step s = .next s := by
  simp only [step, hhalted]

theorem step_of_faulted {s : State} {f : FaultRecord} (hfaulted : s.runState = .faulted f) :
    step s = .fault (.machineFaulted f) := by
  simp only [step, hfaulted]

/-- Settles O11: the two terminal cases of the step. -/
theorem noCycleStartsInATerminalState : Obligations.NoCycleStartsInATerminalState :=
  ⟨fun _ => step_of_halted, fun _ _ => step_of_faulted⟩

theorem State.finish_of_running {s : State} (hrun : s.runState = .running) : s.finish = s.endCycle := by
  simp only [State.finish, hrun]

theorem State.finish_of_ne_running {s : State} (hstop : s.runState ≠ .running) : s.finish = s := by
  rcases s.finish_cases with ⟨hrun, -⟩ | ⟨-, hfinish⟩
  · exact absurd hrun hstop
  · exact hfinish

/-- Settles O7: every instruction answers a next state, and the rest of the cycle runs by the run state it leaves. -/
theorem stepRunsTheDecodedInstruction : Obligations.StepRunsTheDecodedInstruction := by
  refine ⟨fun s i hruns => ?_, fun u hrun => State.finish_of_running hrun, fun u hstop => State.finish_of_ne_running hstop⟩
  obtain ⟨u, hexec⟩ := exec_next i s.prepared
  rw [step_of_exec hruns hexec, hexec]

/-- Settles O10: an opcode past the end of the map decodes to nothing, and raising the fault changes the run state alone. -/
theorem unassignedOpcodeFaults : Obligations.UnassignedOpcodeFaults := by
  intro s hrun hpast
  exact ⟨_, step_of_decode_error hrun (decode_of_length_le hpast), rfl, rfl, rfl, rfl, rfl, rfl, rfl,
    s.readReg_prepared_one, s.readReg_prepared_two, fun r => s.readReg_prepared_of_ne,
    s.getIor_prepared_clks, s.getIor_prepared_irq2status, fun a => s.getIor_prepared_of_ne, s.prepared_sameMemories,
    s.prepared.regSnapshot, s.prepared.regSnapshot_getElem, s.prepared_obs⟩

end Sys2Proof.Machine
end

section
/-!
What an instruction can change, one lemma for each part of the state, read once from `exec_cases`; and what the rest of the
cycle leaves alone. The whole-machine rules (10_state.md sections 1, 4 and 6, 60_exceptions.md section 1) follow from these.
-/

namespace Sys2Proof.Machine

/-! ### Operations of phase P6 that have branches of their own -/

@[simp] theorem State.addressFault_frame (s : State) (ea : Word) :
    (s.addressFault ea).params = s.params ∧ (s.addressFault ea).regs = s.regs ∧ (s.addressFault ea).pc = s.pc ∧
      (s.addressFault ea).imem = s.imem ∧ (s.addressFault ea).dmem = s.dmem ∧ (s.addressFault ea).ior = s.ior ∧
      (s.addressFault ea).diskTimer = s.diskTimer ∧ (s.addressFault ea).issuedThisCycle = s.issuedThisCycle ∧
      (s.addressFault ea).schedPtr = s.schedPtr ∧ (s.addressFault ea).cycle = s.cycle ∧
      (s.addressFault ea).disk = s.disk ∧ (s.addressFault ea).fb = s.fb := by
  unfold State.addressFault
  cases s.params.faultPolicy with
  | hardFault => simp
  | legacyStall => simp

/-- Only the streams can tell whether a `reti` traced. -/
@[simp] theorem State.emitReti_frame (s : State) (a : IorIdx) :
    (s.emitReti a).params = s.params ∧ (s.emitReti a).regs = s.regs ∧ (s.emitReti a).pc = s.pc ∧
      (s.emitReti a).imem = s.imem ∧ (s.emitReti a).dmem = s.dmem ∧ (s.emitReti a).ior = s.ior ∧
      (s.emitReti a).diskTimer = s.diskTimer ∧ (s.emitReti a).issuedThisCycle = s.issuedThisCycle ∧
      (s.emitReti a).schedPtr = s.schedPtr ∧ (s.emitReti a).cycle = s.cycle ∧ (s.emitReti a).runState = s.runState ∧
      (s.emitReti a).disk = s.disk ∧ (s.emitReti a).fb = s.fb := by
  unfold State.emitReti
  split <;> simp

/-- A read of the bank can clear `monitorcmd` and changes nothing outside the bank. -/
@[simp] theorem State.ioRead_frame (s : State) (a : IorIdx) :
    (s.ioRead a).2.params = s.params ∧ (s.ioRead a).2.regs = s.regs ∧ (s.ioRead a).2.pc = s.pc ∧
      (s.ioRead a).2.imem = s.imem ∧ (s.ioRead a).2.dmem = s.dmem ∧
      (s.ioRead a).2.diskTimer = s.diskTimer ∧ (s.ioRead a).2.issuedThisCycle = s.issuedThisCycle ∧
      (s.ioRead a).2.schedPtr = s.schedPtr ∧ (s.ioRead a).2.cycle = s.cycle ∧ (s.ioRead a).2.runState = s.runState ∧
      (s.ioRead a).2.disk = s.disk ∧ (s.ioRead a).2.fb = s.fb := by
  unfold State.ioRead
  split <;> simp

/-! ### The register file -/

/-- The operations that write a register as `rd` (10_state.md R24). -/
def rdWriters : List Op := [Op.add, .sub, .mac, .and, .or, .xor, .sll, .sra, .srl, .jal, .lw, .ioIn]

/-- Writes of states that agree on the registers and on the hardwiring give the same register file. -/
theorem State.writeReg_regs_congr {s t : State} (hparams : t.params = s.params) (hregs : t.regs = s.regs) (r : RegIdx)
    (v : Word) : (t.writeReg r v).regs = (s.writeReg r v).regs := by
  have hhard : t.isHardwired r = s.isHardwired r := by simp only [State.isHardwired, hparams]
  simp only [State.writeReg, hhard, hregs]

theorem exec_regs_cases {i : Instr} {s u : State} (hexec : exec i s = .next u) :
    u.regs = s.regs ∨ i.op ∈ rdWriters ∧ ∃ v, u.regs = (s.writeReg i.fields.rd v).regs := by
  cases exec_cases hexec with
  | alu v hi hu => exact .inr ⟨List.mem_append_left [Op.jal, .lw, .ioIn] hi, v, by simp [hu]⟩
  | jal p hi hu => exact .inr ⟨by rw [hi]; decide, zext32 s.nextPc, by rw [hu, State.setPc_regs]⟩
  | load v hi _ hu => exact .inr ⟨by rw [hi]; decide, v, by simp [hu]⟩
  | ioIn a hi _ hu =>
    refine .inr ⟨by rw [hi]; decide, (s.ioRead a).1, ?_⟩
    rw [hu]
    exact State.writeReg_regs_congr (by simp) (by simp) _ _
  | branch _ _ hu | store _ _ _ hu | addressFault _ _ hu | ioError _ _ hu | reti _ _ _ hu
  | outPlain _ _ _ hu | outLed _ _ hu | outSeg _ _ hu | outCommit _ _ _ hu
  | outLaunch _ _ _ _ _ _ hu | outFault _ _ _ _ _ hu | halted _ _ hu | parked _ _ hu => exact .inl (by simp [hu])

/-! ### The memories -/

/-- No instruction changes the program, a parameter or the schedule pointer. -/
theorem exec_frame {i : Instr} {s u : State} (hexec : exec i s = .next u) :
    u.params = s.params ∧ u.imem = s.imem ∧ u.schedPtr = s.schedPtr := by
  cases exec_cases hexec with
  | alu _ _ hu | branch _ _ hu | jal _ _ hu | load _ _ _ hu | store _ _ _ hu
  | addressFault _ _ hu | ioError _ _ hu | reti _ _ _ hu | ioIn _ _ _ hu
  | outPlain _ _ _ hu | outLed _ _ hu | outSeg _ _ hu | outCommit _ _ _ hu
  | outLaunch _ _ _ _ _ _ hu | outFault _ _ _ _ _ hu | halted _ _ hu | parked _ _ hu => simp [hu]

/-- `i` is an `out` to the I/O address `a`. -/
def State.OutsTo (s : State) (i : Instr) (a : Nat) : Prop :=
  i.op = .ioOut ∧ (s.ioAddr i.fields.rs i.fields.rt).toNat = a

/-- Data memory changes by a store or by a disk read (R193, R256). -/
theorem exec_dmem_cases {i : Instr} {s u : State} (hexec : exec i s = .next u) :
    u.dmem = s.dmem ∨
      (i.op = .sw ∧ (s.effAddr i.fields.rs i.fields.rt).toNat < 4096 ∧
        ∃ v, u.dmem = s.dmem.write (s.effAddr i.fields.rs i.fields.rt).toNat v) ∨
      (s.OutsTo i 14 ∧ s.readReg i.fields.rm = 1 ∧ s.getIor Ior.diskstatus = 0 ∧
        (s.getIor Ior.diskbuffer).toNat ≤ 3968 ∧
        u.dmem = Memory.copy s.disk s.dmem (diskAddr (s.getIor Ior.disksector).toNat 0)
          (s.getIor Ior.diskbuffer).toNat 128) := by
  cases exec_cases hexec with
  | store v hi ha hu => exact .inr (.inl ⟨hi, ha, v, by simp [hu]⟩)
  | outLaunch hi ha hl hv _ hb hu =>
    rcases hv with hv | hv
    · exact .inr (.inr ⟨⟨hi, ha⟩, hv, hl, hb, by simp [hu, hv, State.dmaCopy_dmem]⟩)
    · exact .inl (by simp [hu, hv, State.dmaCopy_dmem])
  | alu _ _ hu | branch _ _ hu | jal _ _ hu | load _ _ _ hu
  | addressFault _ _ hu | ioError _ _ hu | reti _ _ _ hu | ioIn _ _ _ hu
  | outPlain _ _ _ hu | outLed _ _ hu | outSeg _ _ hu | outCommit _ _ _ hu
  | outFault _ _ _ _ _ hu | halted _ _ hu | parked _ _ hu => exact .inl (by simp [hu])

/-- The disk changes by a disk write (R256). -/
theorem exec_disk_cases {i : Instr} {s u : State} (hexec : exec i s = .next u) :
    u.disk = s.disk ∨
      (s.OutsTo i 14 ∧ s.readReg i.fields.rm = 2 ∧ s.getIor Ior.diskstatus = 0 ∧
        (s.getIor Ior.disksector).toNat ≤ 127 ∧
        u.disk = Memory.copy s.dmem s.disk (s.getIor Ior.diskbuffer).toNat
          (diskAddr (s.getIor Ior.disksector).toNat 0) 128) := by
  cases exec_cases hexec with
  | outLaunch hi ha hl hv hs _ hu =>
    rcases hv with hv | hv
    · exact .inl (by simp [hu, hv, State.dmaCopy_disk])
    · exact .inr ⟨⟨hi, ha⟩, hv, hl, hs, by simp [hu, hv, State.dmaCopy_disk]⟩
  | alu _ _ hu | branch _ _ hu | jal _ _ hu | load _ _ _ hu | store _ _ _ hu
  | addressFault _ _ hu | ioError _ _ hu | reti _ _ _ hu | ioIn _ _ _ hu
  | outPlain _ _ _ hu | outLed _ _ hu | outSeg _ _ hu | outCommit _ _ _ hu
  | outFault _ _ _ _ _ hu | halted _ _ hu | parked _ _ hu => exact .inl (by simp [hu])

/-- The framebuffer after a commit (R262). -/
@[simp] theorem State.monitorCommit_fb (s : State) : s.monitorCommit.fb =
    s.fb.write (pixelAddr (s.getIor Ior.monitoraddr)) ((s.getIor Ior.monitordata).extractLsb' 0 8) := rfl

/-- The framebuffer changes by a commit (R262). -/
theorem exec_fb_cases {i : Instr} {s u : State} (hexec : exec i s = .next u) :
    u.fb = s.fb ∨
      (s.OutsTo i 22 ∧ s.readReg i.fields.rm = 1 ∧
        u.fb = s.fb.write (pixelAddr (s.getIor Ior.monitoraddr)) ((s.getIor Ior.monitordata).extractLsb' 0 8)) := by
  cases exec_cases hexec with
  | outCommit hi ha hv hu => exact .inr ⟨⟨hi, ha⟩, hv, by simp [hu]⟩
  | alu _ _ hu | branch _ _ hu | jal _ _ hu | load _ _ _ hu | store _ _ _ hu
  | addressFault _ _ hu | ioError _ _ hu | reti _ _ _ hu | ioIn _ _ _ hu
  | outPlain _ _ _ hu | outLed _ _ hu | outSeg _ _ hu
  | outLaunch _ _ _ _ _ _ hu | outFault _ _ _ _ _ hu | halted _ _ hu | parked _ _ hu => exact .inl (by simp [hu])

/-! ### The run state and the cycle counter -/

/-- Instruction `i` has a cause for the fault `f` in `s`: a data address under `hard_fault`, or a DMA range (R220). -/
def State.Raises (s : State) (i : Instr) (f : FaultRecord) : Prop :=
  ((i.op = .lw ∨ i.op = .sw) ∧ s.params.faultPolicy = .hardFault ∧
    f = .memAddressFault s.pc (s.effAddr i.fields.rs i.fields.rt) ∧
    4096 ≤ (s.effAddr i.fields.rs i.fields.rt).toNat) ∨
  (s.OutsTo i 14 ∧ f = .dmaRangeFault s.pc (s.getIor Ior.disksector) (s.getIor Ior.diskbuffer) ∧
    (127 < (s.getIor Ior.disksector).toNat ∨ 3968 < (s.getIor Ior.diskbuffer).toNat))

/-- What an address outside data memory does to the run state (R191, R194). -/
theorem State.addressFault_runState_cases (s : State) (ea : Word) :
    (s.params.faultPolicy = .hardFault ∧ (s.addressFault ea).runState = .faulted (.memAddressFault s.pc ea)) ∨
      (s.params.faultPolicy = .legacyStall ∧ (s.addressFault ea).runState = s.runState) := by
  unfold State.addressFault
  cases s.params.faultPolicy with
  | hardFault => exact .inl ⟨rfl, rfl⟩
  | legacyStall => exact .inr ⟨rfl, rfl⟩

/-- An instruction goes on, halts, or raises a fault; only a halt counts the cycle itself (R127, R222). -/
theorem exec_runState_cases {i : Instr} {s u : State} (hexec : exec i s = .next u) :
    (u.runState = s.runState ∧ u.cycle = s.cycle) ∨
      (i.op = .halt ∧ s.diskTimer = 0 ∧ u = (s.setRunState .halted).setCycle (s.cycle + 1)) ∨
      (∃ f, u.runState = .faulted f ∧ u.cycle = s.cycle ∧ u.pc = s.pc ∧ s.Raises i f) := by
  cases exec_cases hexec with
  | addressFault hi ha hu =>
    rcases s.addressFault_runState_cases (s.effAddr i.fields.rs i.fields.rt) with ⟨hpolicy, hrun⟩ | ⟨-, hrun⟩
    · exact .inr (.inr ⟨_, by rw [hu, hrun], by simp [hu], by simp [hu], .inl ⟨hi, hpolicy, rfl, ha⟩⟩)
    · exact .inl ⟨by rw [hu, hrun], by simp [hu]⟩
  | outFault hi ha _ _ hr hu =>
    exact .inr (.inr ⟨_, by rw [hu]; rfl, by simp [hu], by simp [hu], .inr ⟨⟨hi, ha⟩, rfl, hr⟩⟩)
  | halted hi h0 hu => exact .inr (.inl ⟨hi, h0, hu⟩)
  | alu _ _ hu | branch _ _ hu | jal _ _ hu | load _ _ _ hu | store _ _ _ hu
  | ioError _ _ hu | reti _ _ _ hu | ioIn _ _ _ hu
  | outPlain _ _ _ hu | outLed _ _ hu | outSeg _ _ hu | outCommit _ _ _ hu
  | outLaunch _ _ _ _ _ _ hu | parked _ _ hu => exact .inl (by simp [hu])

/-! ### The rest of the cycle -/

@[simp] theorem State.finish_frame (s : State) :
    s.finish.params = s.params ∧ s.finish.regs = s.regs ∧ s.finish.imem = s.imem ∧ s.finish.dmem = s.dmem ∧
      s.finish.disk = s.disk ∧ s.finish.fb = s.fb ∧ s.finish.runState = s.runState := by
  rcases s.finish_cases with ⟨-, hfinish⟩ | ⟨-, hfinish⟩ <;> rw [hfinish]
  · obtain ⟨hparams, hregs, himem, hdmem, hdisk, hfb, -, hrun, -⟩ := s.endCycle_frame
    exact ⟨hparams, hregs, himem, hdmem, hdisk, hfb, hrun⟩
  · exact ⟨rfl, rfl, rfl, rfl, rfl, rfl, rfl⟩

@[simp] theorem State.finish_readReg (s : State) (r : RegIdx) : s.finish.readReg r = s.readReg r :=
  State.sameRegs_of_eq (by simp) (by simp) r

/-- If a step changes what `f` reads, and neither the phases before the instruction nor a fault nor the rest of the cycle can, the
instruction it ran changed it. -/
theorem exists_exec_of_step_changes {α : Type} {f : State → α} {s t : State} (hstep : step s = .next t) (hne : f t ≠ f s)
    (hprepared : f s.prepared = f s) (hfault : ∀ u r, f (State.raiseFault u r) = f u)
    (hfinish : ∀ u, f (State.finish u) = f u) :
    ∃ i u, s.Runs i ∧ exec i s.prepared = .next u ∧ f t = f u ∧ f u ≠ f s.prepared := by
  rcases step_cases hstep with ⟨-, rfl⟩ | ⟨-, _, -, rfl⟩ | ⟨hrun, i, u, hdecode, hexec, rfl⟩
  · exact absurd rfl hne
  · exact absurd ((hfault _ _).trans hprepared) hne
  · refine ⟨i, u, ⟨hrun, hdecode⟩, hexec, hfinish u, fun heq => hne ?_⟩
    rw [hfinish, heq, hprepared]

/-- The words of the disk and the monitor that an instruction finds are those of the state before the cycle. -/
theorem State.prepared_deviceWords (s : State) :
    s.prepared.getIor Ior.diskstatus = s.getIor Ior.diskstatus ∧
      s.prepared.getIor Ior.disksector = s.getIor Ior.disksector ∧
      s.prepared.getIor Ior.diskbuffer = s.getIor Ior.diskbuffer ∧
      s.prepared.getIor Ior.monitoraddr = s.getIor Ior.monitoraddr ∧
      s.prepared.getIor Ior.monitordata = s.getIor Ior.monitordata := by
  simp [State.getIor_prepared]

/-! ### The obligations -/

/-- Settles O49: no instruction writes the program or a parameter, and no other phase does. -/
theorem stepKeepsProgramAndParameters : Obligations.StepKeepsProgramAndParameters := by
  intro s t hstep
  rcases step_cases hstep with ⟨-, rfl⟩ | ⟨-, _, -, rfl⟩ | ⟨-, i, u, -, hexec, rfl⟩
  · exact ⟨rfl, rfl⟩
  · exact ⟨rfl, rfl⟩
  · obtain ⟨hparams, himem, -⟩ := exec_frame hexec
    simp [hparams, himem]

/-- Settles O50: the only change an instruction makes to the register file is the write of its `rd`. -/
theorem registersChangeOnlyThroughRd : Obligations.RegistersChangeOnlyThroughRd := by
  intro s t r hstep h1 h2 hne
  obtain ⟨i, u, hruns, hexec, -, hchanged⟩ := exists_exec_of_step_changes (f := fun s => s.readReg r) hstep hne
    (s.readReg_prepared_of_ne h1 h2) (fun u f => u.raiseFault_readReg f r) (fun u => u.finish_readReg r)
  obtain ⟨hparams, -, -⟩ := exec_frame hexec
  rcases exec_regs_cases hexec with hregs | ⟨hwriter, v, hregs⟩
  · exact absurd (State.sameRegs_of_eq hparams hregs r) hchanged
  · have hread : u.readReg r = (s.prepared.writeReg i.fields.rd v).readReg r :=
      State.sameRegs_of_eq (s := s.prepared.writeReg i.fields.rd v) hparams hregs r
    refine ⟨i, hruns, by_contra fun hother => hchanged ?_, hwriter⟩
    exact hread.trans ((State.readReg_writeReg _ _ _ _).trans (if_neg fun h => hother h.1.symm))

/-- Settles O51: a read outside the stored word, and one outside the buffer's window, gives what it gave before. -/
theorem dataMemoryChangesOnlyBySwOrDma : Obligations.DataMemoryChangesOnlyBySwOrDma := by
  intro s t a hstep hne
  obtain ⟨i, u, hruns, hexec, -, hchanged⟩ := exists_exec_of_step_changes (f := fun s => s.readDmem a) hstep hne
    rfl (fun _ _ => rfl) (fun u => by simp [State.readDmem])
  refine ⟨i, hruns, ?_⟩
  simp only [State.readDmem] at hchanged
  rcases exec_dmem_cases hexec with hdmem | ⟨hsw, hlt, v, hdmem⟩ | ⟨⟨hout, haddr⟩, hone, hidle, -, hdmem⟩
  · exact absurd (by rw [hdmem]) hchanged
  · rw [hdmem, Memory.read_write] at hchanged
    have ha : a = (s.prepared.effAddr i.fields.rs i.fields.rt).toNat := by_contra fun h => hchanged (if_neg h)
    exact .inl ⟨hsw, ha.symm, ha ▸ hlt⟩
  · rw [hdmem, Memory.read_copy] at hchanged
    obtain ⟨hlo, hhi⟩ := by_contra fun h => hchanged (if_neg h)
    obtain ⟨hstatus, -, hbuffer, -, -⟩ := s.prepared_deviceWords
    rw [hstatus] at hidle
    rw [hbuffer] at hlo hhi
    exact .inr ⟨hout, haddr, hone, hidle, hlo, hhi⟩

/-- Settles O52: a read outside the window of the sector gives what it gave before. -/
theorem diskChangesOnlyByDmaWrite : Obligations.DiskChangesOnlyByDmaWrite := by
  intro s t k hstep hne
  obtain ⟨i, u, hruns, hexec, -, hchanged⟩ := exists_exec_of_step_changes (f := fun s => s.disk.read k) hstep hne
    rfl (fun _ _ => rfl) (fun u => by simp)
  rcases exec_disk_cases hexec with hdisk | ⟨⟨hout, haddr⟩, htwo, hidle, -, hdisk⟩
  · exact absurd (by rw [hdisk]) hchanged
  · rw [hdisk, Memory.read_copy] at hchanged
    obtain ⟨hlo, hhi⟩ := by_contra fun h => hchanged (if_neg h)
    obtain ⟨hstatus, hsector, -, -, -⟩ := s.prepared_deviceWords
    rw [hstatus] at hidle
    rw [hsector, diskAddr] at hlo hhi
    refine ⟨i, hruns, hout, haddr, htwo, hidle, ?_⟩
    omega

/-- The low byte of a word as a number (R262). -/
theorem extractLsb'_low_byte (v : Word) : v.extractLsb' 0 8 = BitVec.ofNat 8 v.toNat := by
  apply BitVec.eq_of_toNat_eq
  rw [BitVec.extractLsb'_toNat, Nat.shiftRight_zero, BitVec.toNat_ofNat]

/-- Settles O53: a read of another pixel gives what it gave before, and the addressed one holds the byte committed. -/
theorem framebufferChangesOnlyByCommit : Obligations.FramebufferChangesOnlyByCommit := by
  intro s t k hstep hne
  obtain ⟨i, u, hruns, hexec, hread, hchanged⟩ := exists_exec_of_step_changes (f := fun s => s.readFb k) hstep hne
    rfl (fun _ _ => rfl) (fun u => by simp [State.readFb])
  simp only [State.readFb] at hread hchanged ⊢
  rcases exec_fb_cases hexec with hfb | ⟨⟨hout, haddr⟩, hone, hfb⟩
  · exact absurd (by rw [hfb]) hchanged
  · rw [hfb, Memory.read_write] at hread hchanged
    have hk := by_contra fun h => hchanged (if_neg h)
    obtain ⟨-, -, -, haddrWord, hdataWord⟩ := s.prepared_deviceWords
    rw [if_pos hk, extractLsb'_low_byte, hdataWord] at hread
    rw [haddrWord] at hk
    exact ⟨⟨i, hruns, hout, haddr, hone⟩, hk.trans (pixelAddr_eq _), hread⟩

/-- Settles O12: a fault is raised before the cycle is counted and leaves the pc; a halt counts its own cycle, and phase P11
counts every other. -/
theorem everyCycleCompletesAndCounts : Obligations.EveryCycleCompletesAndCounts := by
  intro s hrun
  cases hdecode : decode s.params.opcodeMap s.fetch with
  | error e => exact ⟨_, step_of_decode_error hrun hdecode, fun hok => absurd rfl (hok _), fun _ => ⟨rfl, rfl⟩⟩
  | ok i =>
    obtain ⟨u, hexec⟩ := exec_next i s.prepared
    refine ⟨u.finish, step_of_exec ⟨hrun, hdecode⟩ hexec, ?_⟩
    rcases exec_runState_cases hexec with ⟨hstate, hcycle⟩ | ⟨-, -, rfl⟩ | ⟨f, hfault, hcycle, hpc, -⟩
    · have hrunning : u.runState = .running := hstate.trans hrun
      obtain ⟨-, -, -, -, -, -, -, hstate, hcount, -⟩ := u.endCycle_frame
      rw [State.finish_of_running hrunning]
      refine ⟨fun _ => by rw [hcount, hcycle]; rfl, fun hbad => absurd (fun f => ?_) hbad⟩
      rw [hstate, hrunning]
      exact RunState.noConfusion
    · exact ⟨fun _ => rfl, fun hbad => absurd (fun f => RunState.noConfusion) hbad⟩
    · rw [State.finish_of_ne_running (by rw [hfault]; exact RunState.noConfusion)]
      exact ⟨fun hok => absurd hfault (hok f), fun _ => ⟨hcycle, hpc⟩⟩

/-- Settles O54: of the three ways an instruction can end only the halting one gives a HALTED state, and nothing runs after it. -/
theorem onlyHaltHalts : Obligations.OnlyHaltHalts := by
  intro s t hrun hstep hhalted
  rcases step_cases hstep with ⟨hstopped, -⟩ | ⟨-, _, -, rfl⟩ | ⟨-, i, u, hdecode, hexec, rfl⟩
  · rw [hrun] at hstopped
    cases hstopped
  · cases hhalted
  · obtain ⟨-, -, -, -, -, -, hstate⟩ := u.finish_frame
    rw [hstate] at hhalted
    rcases exec_runState_cases hexec with ⟨hsame, -⟩ | ⟨hop, htimer, rfl⟩ | ⟨f, hfault, -⟩
    · rw [hhalted] at hsame
      exact absurd (hsame.trans hrun) RunState.noConfusion
    · exact ⟨⟨i, ⟨hrun, hdecode⟩, hop⟩, htimer, rfl, rfl, fun _ => rfl, rfl⟩
    · rw [hhalted] at hfault
      cases hfault

/-- Settles O55: the word has no operation, or the instruction had a cause in the prepared state, whose pc and disk words are
those of the state before. -/
theorem onlyThreeCausesFault : Obligations.OnlyThreeCausesFault := by
  intro s t f hrun hstep hfaulted
  rcases step_cases hstep with ⟨hstopped, -⟩ | ⟨-, e, hdecode, rfl⟩ | ⟨-, i, u, hdecode, hexec, rfl⟩
  · rw [hrun] at hstopped
    cases hstopped
  · have hrecord : RunState.faulted (.illegalOpcode s.pc s.fetch) = .faulted f := hfaulted
    cases hrecord
    exact .inl ⟨rfl, fun i hok => by rw [hdecode] at hok; cases hok⟩
  · obtain ⟨-, -, -, -, -, -, hstate⟩ := u.finish_frame
    rw [hstate] at hfaulted
    rcases exec_runState_cases hexec with ⟨hsame, -⟩ | ⟨-, -, rfl⟩ | ⟨f', hfault, -, -, hcause⟩
    · rw [hfaulted] at hsame
      exact absurd (hsame.trans hrun) RunState.noConfusion
    · cases hfaulted
    · rw [hfaulted] at hfault
      cases hfault
      rcases hcause with ⟨hop, hpolicy, hrecord, haddr⟩ | ⟨⟨hout, haddr⟩, hrecord, hrange⟩
      · exact .inr (.inl ⟨i, ⟨hrun, hdecode⟩, hop, hpolicy, hrecord, haddr⟩)
      · obtain ⟨-, hsector, hbuffer, -, -⟩ := s.prepared_deviceWords
        rw [hsector, hbuffer] at hrecord hrange
        exact .inr (.inr ⟨i, ⟨hrun, hdecode⟩, hout, haddr, hrecord, hrange⟩)

end Sys2Proof.Machine
end

section
/-!
The invariants (10_state.md section 6, 20_memory.md section 1, 40_cycle_engine.md R129): each part is kept by phase P6 and by the
rest of the cycle, and holds after every boot.
-/

namespace Sys2Proof.Machine

/-! ### The hidden counters under each phase -/

/-- Only a launch sets the countdown (R256). -/
theorem exec_diskTimer_cases {i : Instr} {s u : State} (hexec : exec i s = .next u) :
    u.diskTimer = s.diskTimer ∨ u.diskTimer = diskLatency := by
  cases exec_cases hexec with
  | outLaunch _ _ _ _ _ _ hu => exact .inr (by simp [hu])
  | alu _ _ hu | branch _ _ hu | jal _ _ hu | load _ _ _ hu | store _ _ _ hu
  | addressFault _ _ hu | ioError _ _ hu | reti _ _ _ hu | ioIn _ _ _ hu
  | outPlain _ _ _ hu | outLed _ _ hu | outSeg _ _ hu | outCommit _ _ _ hu
  | outFault _ _ _ _ _ hu | halted _ _ hu | parked _ _ hu => exact .inl (by simp [hu])

/-- Only a launch sets the mark of an issue, and a launch does not stop the machine (R256). -/
theorem exec_issuedThisCycle_cases {i : Instr} {s u : State} (hexec : exec i s = .next u) :
    u.issuedThisCycle = s.issuedThisCycle ∨ u.runState = s.runState := by
  cases exec_cases hexec with
  | outLaunch _ _ _ _ _ _ hu => exact .inr (by simp [hu])
  | alu _ _ hu | branch _ _ hu | jal _ _ hu | load _ _ _ hu | store _ _ _ hu
  | addressFault _ _ hu | ioError _ _ hu | reti _ _ _ hu | ioIn _ _ _ hu
  | outPlain _ _ _ hu | outLed _ _ hu | outSeg _ _ hu | outCommit _ _ _ hu
  | outFault _ _ _ _ _ hu | halted _ _ hu | parked _ _ hu => exact .inl (by simp [hu])

/-- The pointer rule of phase P7 (R129, D29). -/
theorem State.externalStep_schedPtr (s : State) : s.externalStep.schedPtr =
    if s.params.irq2Schedule[s.schedPtr]? = some s.cycle then s.schedPtr + 1 else s.schedPtr := by
  rcases s.externalStep_cases with ⟨hdue, hpulse⟩ | ⟨hidle, hkeep⟩
  · rw [hpulse, if_pos hdue, State.setSchedPtr_schedPtr]
  · rw [hkeep, if_neg hidle]

/-- Phase P8 never sets the countdown up. -/
theorem State.diskStep_diskTimer_le (s : State) : s.diskStep.diskTimer ≤ s.diskTimer := by
  rcases s.diskStep_cases with ⟨-, -, hdone⟩ | ⟨-, -, hcount⟩ | ⟨-, hkeep⟩
  · simp [hdone, State.diskComplete]
  · simp [hcount]
  · simp [hkeep]

theorem State.endCycle_schedPtr (s : State) : s.endCycle.schedPtr = s.externalStep.schedPtr := by
  simp [State.endCycle]

theorem State.endCycle_diskTimer (s : State) : s.endCycle.diskTimer = s.externalStep.diskStep.diskTimer := by
  simp [State.endCycle]

/-! ### What phase P6 keeps -/

/-- Stores, copies and commits stay inside their spaces by the checks the instruction made (R191, R226, R262). -/
theorem exec_keeps_memoriesWf {i : Instr} {s u : State} (hexec : exec i s = .next u) (hwf : s.MemoriesWf) :
    u.MemoriesWf := by
  obtain ⟨himem, hdmem, hdisk, hfb⟩ := hwf
  obtain ⟨-, himem', -⟩ := exec_frame hexec
  refine ⟨himem' ▸ himem, ?_, ?_, ?_⟩
  · rcases exec_dmem_cases hexec with hsame | ⟨-, haddr, v, hstore⟩ | ⟨-, -, -, hbuffer, hcopy⟩
    · exact hsame ▸ hdmem
    · exact hstore ▸ Memory.write_wf v hdmem haddr
    · exact hcopy ▸ Memory.copy_wf _ _ hdmem (by omega)
  · rcases exec_disk_cases hexec with hsame | ⟨-, -, -, hsector, hcopy⟩
    · exact hsame ▸ hdisk
    · exact hcopy ▸ Memory.copy_wf _ _ hdisk (by rw [diskAddr]; omega)
  · rcases exec_fb_cases hexec with hsame | ⟨-, -, hcommit⟩
    · exact hsame ▸ hfb
    · exact hcommit ▸ Memory.write_wf _ hfb (by rw [pixelAddr_eq]; omega)

theorem exec_keeps_hiddenInRange {i : Instr} {s u : State} (hexec : exec i s = .next u) (hrange : s.HiddenInRange) :
    u.HiddenInRange := by
  obtain ⟨htimer, hptr⟩ := hrange
  obtain ⟨hparams, -, hsched⟩ := exec_frame hexec
  refine ⟨?_, by rw [hsched, hparams]; exact hptr⟩
  rcases exec_diskTimer_cases hexec with hsame | hlaunch
  · exact hsame ▸ htimer
  · exact hlaunch.le

/-- A write to a hardwired register 0 is discarded, and a write to another register is not one to register 0 (R10). -/
theorem State.writeReg_zeroRegHolds {s : State} (hzero : s.ZeroRegHolds) (r : RegIdx) (v : Word) :
    (s.writeReg r v).ZeroRegHolds := by
  intro hwired
  by_cases hr : r = 0
  · have hhard : s.isHardwired r = true := (s.isHardwired_iff r).mpr ⟨hr, hwired⟩
    simp only [State.writeReg, hhard, if_true]
    exact hzero hwired
  · have hindex : r.toNat ≠ 0 := fun h => hr (BitVec.eq_of_toNat_eq h)
    have hhard : s.isHardwired r = false := Bool.eq_false_iff.mpr fun h => hr ((s.isHardwired_iff r).mp h).1
    simp only [State.writeReg, hhard, Bool.false_eq_true, if_false, Vector.getElem_set_ne _ _ hindex]
    exact hzero hwired

theorem State.zeroRegHolds_of_eq {s t : State} (hparams : t.params = s.params) (hregs : t.regs = s.regs)
    (hzero : s.ZeroRegHolds) : t.ZeroRegHolds := by
  intro hwired
  rw [hparams] at hwired
  simp only [hregs]
  exact hzero hwired

theorem exec_keeps_zeroRegHolds {i : Instr} {s u : State} (hexec : exec i s = .next u) (hzero : s.ZeroRegHolds) :
    u.ZeroRegHolds := by
  obtain ⟨hparams, -, -⟩ := exec_frame hexec
  rcases exec_regs_cases hexec with hregs | ⟨-, v, hregs⟩
  · exact State.zeroRegHolds_of_eq hparams hregs hzero
  · exact State.zeroRegHolds_of_eq (s := s.writeReg i.fields.rd v) hparams hregs (State.writeReg_zeroRegHolds hzero _ _)

/-! ### The whole step -/

/-- Phases P1 to P5 write no memory, registers 1 and 2 only, and drop the mark of an issue. -/
theorem State.prepared_inv {s : State} (hinv : s.Inv) : s.prepared.Inv := by
  obtain ⟨hwf, hrange, hzero, -⟩ := hinv
  refine ⟨hwf, hrange, fun hwired => ?_, rfl⟩
  have hregs : s.prepared.regs =
      (s.regs.set 1 (sext32 (fieldsOf s.fetch).imm1)).set 2 (sext32 (fieldsOf s.fetch).imm2) := rfl
  simp only [hregs, Vector.getElem_set_ne _ _ (show 2 ≠ 0 by decide), Vector.getElem_set_ne _ _ (show 1 ≠ 0 by decide)]
  exact hzero hwired

/-- The pointer moves only onto or past an entry that exists, so it stays inside the schedule. -/
theorem State.externalStep_schedPtr_le {s : State} (hptr : s.schedPtr ≤ s.params.irq2Schedule.length) :
    s.externalStep.schedPtr ≤ s.params.irq2Schedule.length := by
  rw [State.externalStep_schedPtr]
  split
  · next hdue =>
    obtain ⟨hlt, -⟩ := List.getElem?_eq_some_iff.mp hdue
    exact hlt
  · exact hptr

/-- The rest of a cycle drops the mark of an issue if it runs at all. -/
theorem State.finish_inv {s : State} (hwf : s.MemoriesWf) (hrange : s.HiddenInRange) (hzero : s.ZeroRegHolds)
    (hissued : s.runState ≠ .running → s.issuedThisCycle = false) : s.finish.Inv := by
  rcases s.finish_cases with ⟨-, hfinish⟩ | ⟨hstop, hfinish⟩ <;> rw [hfinish]
  · obtain ⟨hparams, hregs, himem, hdmem, hdisk, hfb, -, -, -, hmark⟩ := s.endCycle_frame
    obtain ⟨htimer, hptr⟩ := hrange
    refine ⟨by rw [State.MemoriesWf, himem, hdmem, hdisk, hfb]; exact hwf, ⟨?_, ?_⟩,
      State.zeroRegHolds_of_eq hparams hregs hzero, hmark⟩
    · obtain ⟨-, -, -, -, -, -, -, -, -, -, hkept, -⟩ := s.externalStep_frame
      calc s.endCycle.diskTimer = s.externalStep.diskStep.diskTimer := s.endCycle_diskTimer
        _ ≤ s.externalStep.diskTimer := s.externalStep.diskStep_diskTimer_le
        _ = s.diskTimer := hkept
        _ ≤ 1024 := htimer
    · rw [State.endCycle_schedPtr, hparams]
      exact State.externalStep_schedPtr_le hptr
  · exact ⟨hwf, hrange, hzero, hissued hstop⟩

/-- Settles O47: phases P1 to P5, phase P6 and the rest of the cycle keep the invariant one after the other; the mark of an issue
is up only between phase P6 and phase P8 of a RUNNING machine. -/
theorem stepKeepsTheInvariant : Obligations.StepKeepsTheInvariant := by
  intro s t hinv hstep
  have hprepared : s.prepared.Inv := State.prepared_inv hinv
  rcases step_cases hstep with ⟨-, rfl⟩ | ⟨-, _, -, rfl⟩ | ⟨hrun, i, u, -, hexec, rfl⟩
  · exact hinv
  · exact hprepared
  · obtain ⟨hwf, hrange, hzero, hmark⟩ := hprepared
    refine State.finish_inv (exec_keeps_memoriesWf hexec hwf) (exec_keeps_hiddenInRange hexec hrange)
      (exec_keeps_zeroRegHolds hexec hzero) fun hstop => ?_
    rcases exec_issuedThisCycle_cases hexec with hsame | hsame
    · exact hsame.trans hmark
    · exact absurd (hsame.trans hrun) hstop

/-! ### The schedule -/

/-- A schedule inside its domain is strictly ascending, and lies above the bound it was checked from. -/
theorem ascendingFrom_sound {lo : Option Nat} {cs : List Nat} (hasc : ascendingFrom lo cs = true) :
    (∀ l ∈ lo, ∀ c ∈ cs, l < c) ∧ cs.Pairwise (· < ·) := by
  induction cs generalizing lo with
  | nil => simp
  | cons c cs ih =>
    obtain ⟨hlo, htail⟩ := Bool.and_eq_true_iff.mp hasc
    obtain ⟨habove, hpairs⟩ := ih htail
    have habove : ∀ d ∈ cs, c < d := habove c rfl
    refine ⟨fun l hl d hd => ?_, List.pairwise_cons.mpr ⟨habove, hpairs⟩⟩
    have hlc : l < c := by
      rw [Option.mem_def.mp hl] at hlo
      simpa using hlo
    rcases List.mem_cons.mp hd with rfl | hd
    · exact hlc
    · exact hlc.trans (habove d hd)

/-- One cycle passes: with the pointer rule, the entries before the pointer stay the ones before the cycle counter. Where the
entry at the pointer is not due, no later one is, because they are larger. -/
theorem schedule_split_succ {cs : List Nat} {p now : Nat} (hasc : cs.Pairwise (· < ·)) (hconsumed : ∀ c ∈ cs.take p, c < now)
    (hpending : ∀ c ∈ cs.drop p, now ≤ c) :
    (∀ c ∈ cs.take (if cs[p]? = some now then p + 1 else p), c < now + 1) ∧
      (∀ c ∈ cs.drop (if cs[p]? = some now then p + 1 else p), now + 1 ≤ c) := by
  have hpairs : (cs.drop p).Pairwise (· < ·) := hasc.sublist (List.drop_sublist p cs)
  have hnext : (cs.drop p).head? = cs[p]? := List.head?_drop
  have htail : cs.drop (p + 1) = (cs.drop p).tail := List.tail_drop.symm
  split
  case isTrue hdue =>
    rw [List.take_add_one, hdue, htail]
    rw [hdue] at hnext
    obtain ⟨rest, hrest⟩ := List.head?_eq_some_iff.mp hnext
    rw [hrest] at hpairs ⊢
    refine ⟨fun c hc => ?_, (List.pairwise_cons.mp hpairs).1⟩
    rcases List.mem_append.mp hc with hc | hc
    · exact (hconsumed c hc).trans (Nat.lt_succ_self now)
    · exact (List.mem_singleton.mp hc).le.trans_lt (Nat.lt_succ_self now)
  case isFalse hidle =>
    refine ⟨fun c hc => (hconsumed c hc).trans (Nat.lt_succ_self now), fun c hc => ?_⟩
    rw [← hnext] at hidle
    cases hentries : cs.drop p with
    | nil => simp [hentries] at hc
    | cons d rest =>
      rw [hentries] at hc hpairs hidle hpending
      have hd : now < d := lt_of_le_of_ne (hpending d List.mem_cons_self) fun h => hidle (congrArg some h.symm)
      rcases List.mem_cons.mp hc with rfl | hc
      · exact hd
      · exact hd.trans ((List.pairwise_cons.mp hpairs).1 c hc)

/-- Settles O48: only phase P7 moves the pointer and only phase P11 of a cycle that stays RUNNING counts, so one such cycle is one
step of `schedule_split_succ`. -/
theorem stepConsumesTheScheduleInOrder : Obligations.StepConsumesTheScheduleInOrder := by
  intro s t hasc hinv hstep hrunning
  rcases step_cases hstep with ⟨-, rfl⟩ | ⟨-, _, -, rfl⟩ | ⟨hrun, i, u, -, hexec, rfl⟩
  · exact hinv hrunning
  · cases hrunning
  · obtain ⟨-, -, -, -, -, -, hstate⟩ := u.finish_frame
    rw [hstate] at hrunning
    obtain ⟨hparams, -, hptr⟩ := exec_frame hexec
    have hcycle : u.cycle = s.cycle := by
      rcases exec_runState_cases hexec with ⟨-, hsame⟩ | ⟨-, -, rfl⟩ | ⟨f, hfault, -⟩
      · exact hsame
      · cases hrunning
      · rw [hrunning] at hfault
        cases hfault
    have hparams : u.params = s.params := hparams
    have hptr : u.schedPtr = s.schedPtr := hptr
    obtain ⟨hparams', -, -, -, -, -, -, -, hcount, -⟩ := u.endCycle_frame
    obtain ⟨hconsumed, hpending⟩ := hinv hrun
    rw [State.finish_of_running hrunning, hcount, hparams', State.endCycle_schedPtr, State.externalStep_schedPtr, hparams,
      hptr, hcycle]
    exact schedule_split_succ (ascendingFrom_sound hasc).2 hconsumed hpending

/-! ### Boot and reset -/

/-- Settles O46: images that fit give canonical memories, and the counters, the register file and the pointer are at 0. -/
theorem invariantHoldsAtBoot : Obligations.InvariantHoldsAtBoot := by
  intro p im s hboot
  obtain ⟨hfit, -, rfl⟩ := State.boot_eq_ok_iff.mp hboot
  obtain ⟨himem, hdmem, hdisk⟩ : im.imem.length ≤ 4096 ∧ im.dmem.length ≤ 4096 ∧ im.disk.length ≤ 16384 := by
    simpa [Images.fit, and_assoc] using hfit
  have hcounters : (0 : Nat) ≤ 1024 ∧ 0 ≤ p.irq2Schedule.length := ⟨Nat.zero_le _, Nat.zero_le _⟩
  exact ⟨⟨⟨Memory.ofImage_wf _ _ himem, Memory.ofImage_wf _ _ hdmem, Memory.ofImage_wf _ _ hdisk, rfl⟩, hcounters,
      fun _ => rfl, rfl⟩,
    fun _ => ⟨fun c hc => absurd hc List.not_mem_nil, fun c _ => Nat.zero_le c⟩⟩

/-- Settles O45: reset is the boot with the default parameters and empty images. -/
theorem invariantHoldsAtReset : Obligations.InvariantHoldsAtReset :=
  invariantHoldsAtBoot defaultParams ⟨[], [], []⟩ State.reset (State.boot_eq_ok_iff.mpr ⟨by decide, by decide, rfl⟩)

end Sys2Proof.Machine
end

section
/-!
Operand forms as numbers, `mac` and the shifts, the ordering branches and `jal` (41_arith_logic.md R153, R157 to R160,
42_branch_jump.md R173 to R178): the word or the condition each gives to the common ends of the earlier sections.
-/

namespace Sys2Proof.Machine

/-! ### Operands -/

/-- The low five bits as a number (R157). -/
theorem State.shiftAmount_eq (s : State) (rt : RegIdx) : s.shiftAmount rt = (s.readReg rt).toNat % 32 := by
  rw [State.shiftAmount, BitVec.extractLsb'_toNat, Nat.shiftRight_zero]

/-- Settles O13: word addition is addition modulo 2^32, and the bit ranges are remainders. -/
theorem operandFormsAsNumbers : Obligations.OperandFormsAsNumbers := fun s a b =>
  have hsum := BitVec.toNat_add (s.readReg a) (s.readReg b)
  ⟨hsum, hsum, s.shiftAmount_eq a, s.branchTarget_toNat a⟩

/-! ### Products, quotients and powers of two -/

/-- The product sum of three words, read as unsigned numbers (R8). -/
theorem ofNat_mul_add (a b c : Word) : BitVec.ofNat 32 (a.toNat * b.toNat + c.toNat) = a * b + c := by
  simp only [BitVec.ofNat_add, BitVec.ofNat_mul, BitVec.ofNat_toNat, BitVec.setWidth_eq]

/-- The product sum of three words, read as signed numbers (R8). -/
theorem ofInt_mul_add (a b c : Word) : BitVec.ofInt 32 (a.toInt * b.toInt + c.toInt) = a * b + c := by
  simp only [BitVec.ofInt_add, BitVec.ofInt_mul, BitVec.ofInt_toInt]

/-- A shift left is a product modulo 2^32 (R158). -/
theorem ofNat_mul_two_pow (v : Word) (n : Nat) : BitVec.ofNat 32 (v.toNat * 2 ^ n) = v <<< n := by
  apply BitVec.eq_of_toNat_eq
  rw [BitVec.toNat_ofNat, BitVec.toNat_shiftLeft, Nat.shiftLeft_eq]

/-- An arithmetic shift right is the floored signed quotient (R159). -/
theorem ofInt_fdiv_two_pow (v : Word) (n : Nat) : BitVec.ofInt 32 (Int.fdiv v.toInt (2 ^ n)) = v.sshiftRight n := by
  have hfloor : Int.fdiv v.toInt (2 ^ n) = v.toInt >>> n := by
    rw [Int.fdiv_eq_ediv_of_nonneg _ (by positivity), Int.shiftRight_eq_div_pow]
    norm_cast
  rw [hfloor, BitVec.sshiftRight]

/-- A logical shift right is the unsigned quotient (R160). -/
theorem ofNat_div_two_pow (v : Word) (n : Nat) : BitVec.ofNat 32 (v.toNat / 2 ^ n) = v >>> n := by
  apply BitVec.eq_of_toNat_eq
  have hfits : v.toNat / 2 ^ n < 2 ^ 32 := (Nat.div_le_self _ _).trans_lt v.isLt
  rw [BitVec.toNat_ofNat, BitVec.toNat_ushiftRight, Nat.shiftRight_eq_div_pow, Nat.mod_eq_of_lt hfits]

section
variable (rd rs rt rm : RegIdx) (i1 i2 : Imm) (s : State)

theorem exec_mac : exec (.mac rd rs rt rm i1 i2) s =
    .next (s.aluResult rd (s.readReg rs * s.readReg rt + s.readReg rm)) := rfl

theorem exec_sll : exec (.sll rd rs rt rm i1 i2) s =
    .next (s.aluResult rd (s.readReg rs <<< s.shiftAmount rt)) := rfl

theorem exec_sra : exec (.sra rd rs rt rm i1 i2) s =
    .next (s.aluResult rd ((s.readReg rs).sshiftRight (s.shiftAmount rt))) := rfl

theorem exec_srl : exec (.srl rd rs rt rm i1 i2) s =
    .next (s.aluResult rd (s.readReg rs >>> s.shiftAmount rt)) := rfl

end

/-- Settles O16: both readings of the operands give the product and sum of words that `mac` writes. -/
theorem macWritesTheLowProductSum : Obligations.MacWritesTheLowProductSum := by
  intro s rd rs rt rm i1 i2
  rw [ofNat_mul_add, ofInt_mul_add]
  exact ⟨exec_writesReg (exec_mac rd rs rt rm i1 i2 s), rfl⟩

/-- Settles O18: each shift ends in the shared write and advance, with the amount a remainder and the shift an operation on
numbers. -/
theorem shiftsMultiplyAndDivide : Obligations.ShiftsMultiplyAndDivide := by
  intro s rd rs rt rm i1 i2
  rw [← s.shiftAmount_eq rt, ofNat_mul_two_pow, ofInt_fdiv_two_pow, ofNat_div_two_pow]
  exact ⟨exec_writesReg (exec_sll rd rs rt rm i1 i2 s), exec_writesReg (exec_sra rd rs rt rm i1 i2 s),
    exec_writesReg (exec_srl rd rs rt rm i1 i2 s)⟩

/-! ### The ordering branches -/

theorem condLt_iff {a b : Word} : condLt a b = true ↔ a.toInt < b.toInt := decide_eq_true_iff

theorem condGt_iff {a b : Word} : condGt a b = true ↔ a.toInt > b.toInt := decide_eq_true_iff

theorem condLe_iff {a b : Word} : condLe a b = true ↔ a.toInt ≤ b.toInt := decide_eq_true_iff

theorem condGe_iff {a b : Word} : condGe a b = true ↔ a.toInt ≥ b.toInt := decide_eq_true_iff

section
variable (rd rs rt rm : RegIdx) (i1 i2 : Imm) (s : State)

theorem exec_blt : exec (.blt rd rs rt rm i1 i2) s =
    .next (s.branchIf (condLt (s.readReg rs) (s.readReg rt)) rm) := rfl

theorem exec_bgt : exec (.bgt rd rs rt rm i1 i2) s =
    .next (s.branchIf (condGt (s.readReg rs) (s.readReg rt)) rm) := rfl

theorem exec_ble : exec (.ble rd rs rt rm i1 i2) s =
    .next (s.branchIf (condLe (s.readReg rs) (s.readReg rt)) rm) := rfl

theorem exec_bge : exec (.bge rd rs rt rm i1 i2) s =
    .next (s.branchIf (condGe (s.readReg rs) (s.readReg rt)) rm) := rfl

theorem exec_jal : exec (.jal rd rs rt rm i1 i2) s =
    .next ((s.writeReg rd (zext32 s.nextPc)).setPc ((s.writeReg rd (zext32 s.nextPc)).branchTarget rm)) := rfl

end

/-- Settles O21: the four end in the common form of the branches, each with its comparison of the signed numbers. -/
theorem orderingBranchesCompareSigned : Obligations.OrderingBranchesCompareSigned := fun s rd rs rt rm i1 i2 =>
  ⟨exec_onlyPc (exec_blt rd rs rt rm i1 i2 s) condLt_iff, exec_onlyPc (exec_bgt rd rs rt rm i1 i2 s) condGt_iff,
   exec_onlyPc (exec_ble rd rs rt rm i1 i2 s) condLe_iff, exec_onlyPc (exec_bge rd rs rt rm i1 i2 s) condGe_iff⟩

/-! ### `jal` -/

/-- The link value as a word (R177, D7). -/
theorem State.zext32_nextPc (s : State) : zext32 s.nextPc = BitVec.ofNat 32 ((s.pc.toNat + 1) % 4096) := by
  rw [← s.nextPc_toNat, BitVec.ofNat_toNat, zext32]

/-- The target of `jal` is read after the link is written: where `rm` is `rd` and the write is not discarded, it is the link
itself (R177, D31). -/
theorem State.branchTarget_writeReg_link (s : State) (rd rm : RegIdx) :
    (s.writeReg rd (zext32 s.nextPc)).branchTarget rm =
      if rm = rd ∧ s.isHardwired rd = false then s.nextPc else s.branchTarget rm := by
  rw [State.branchTarget, State.readReg_writeReg, apply_ite low12, low12_zext32]
  rfl

/-- Settles O22: the link is a register write by R10, and the target is what that write left in `rm`. -/
theorem jalLinksThenJumps : Obligations.JalLinksThenJumps := by
  intro s rd rs rt rm i1 i2
  have hdiscard : ¬ (rd = 0 ∧ s.params.zeroRegHardwired = true) ↔ s.isHardwired rd = false := by
    rw [← s.isHardwired_iff, Bool.not_eq_true]
  refine ⟨_, exec_jal rd rs rt rm i1 i2 s, ?_, s.aluResult_sameRest rd _, ?_⟩
  · rw [← s.zext32_nextPc]
    exact s.writeReg_regWritten rd _
  · rw [State.setPc_pc, State.branchTarget_writeReg_link, if_congr (and_congr_right fun _ => hdiscard) rfl rfl,
      ← s.nextPc_toNat, ← s.branchTarget_toNat, apply_ite BitVec.toNat]

end Sys2Proof.Machine
end

section
/-!
Loads and stores (43_load_store.md R190 to R194, 20_memory.md section 3): the two ends of `lw` and `sw`, inside data memory and
outside it.
-/

namespace Sys2Proof.Machine

theorem inDmem_iff {ea : Word} : inDmem ea = true ↔ ea.toNat < 4096 := decide_eq_true_iff

/-- The whole effect of an address outside data memory, by the fault policy (R191, R194, R222). -/
theorem State.addressFault_effect (s : State) (ea : Word) : s.AddressFaults (s.addressFault ea) ea := by
  obtain ⟨hparams, hregs, hpc, himem, hdmem, hior, htimer, hmark, hptr, hcycle, hdisk, hfb⟩ := s.addressFault_frame ea
  refine ⟨⟨hpc, State.sameRegs_of_eq hparams hregs, State.sameMemories_of_eq himem hdmem hdisk hfb,
    fun a => by simp only [State.getIor, hior], hparams, htimer, hmark, hptr, hcycle⟩, fun hpolicy => ?_, fun hpolicy => ?_⟩
  · simp only [State.addressFault, hpolicy]
    exact ⟨rfl, rfl⟩
  · simp only [State.addressFault, hpolicy]
    exact ⟨rfl, rfl⟩

/-- Where `sw` goes on: the word stored, and the next pc (R193). -/
abbrev State.afterStore (s : State) (rd rs rt rm : RegIdx) : State :=
  (s.writeDmem (s.effAddr rs rt).toNat (s.readReg rd + s.readReg rm)).advance

section
variable (rd rs rt rm : RegIdx) (i1 i2 : Imm) {s : State}

theorem exec_lw_of_lt (haddr : (s.effAddr rs rt).toNat < 4096) : exec (.lw rd rs rt rm i1 i2) s =
    .next (s.aluResult rd (s.readDmem (s.effAddr rs rt).toNat + s.readReg rm)) := by
  simp only [exec, execLw, inDmem_iff.mpr haddr, if_true, State.aluResult]

theorem exec_lw_of_ge (haddr : 4096 ≤ (s.effAddr rs rt).toNat) : exec (.lw rd rs rt rm i1 i2) s =
    .next (s.addressFault (s.effAddr rs rt)) := by
  simp only [exec, execLw, inDmem_iff, haddr.not_gt, if_false]

theorem exec_sw_of_lt (haddr : (s.effAddr rs rt).toNat < 4096) : exec (.sw rd rs rt rm i1 i2) s =
    .next (s.afterStore rd rs rt rm) := by
  simp only [exec, execSw, inDmem_iff.mpr haddr, if_true]

theorem exec_sw_of_ge (haddr : 4096 ≤ (s.effAddr rs rt).toNat) : exec (.sw rd rs rt rm i1 i2) s =
    .next (s.addressFault (s.effAddr rs rt)) := by
  simp only [exec, execSw, inDmem_iff, haddr.not_gt, if_false]

end

/-- The sum of two words is the sum of their numbers modulo 2^32 (R8). -/
theorem ofNat_add_toNat (a b : Word) : BitVec.ofNat 32 (a.toNat + b.toNat) = a + b := by
  simp only [BitVec.ofNat_add, BitVec.ofNat_toNat, BitVec.setWidth_eq]

/-- Data memory after a store reads as the stored sum at the address, and as before elsewhere. -/
theorem State.readDmem_afterStore (s : State) (rd rs rt rm : RegIdx) (a : Nat) :
    (s.afterStore rd rs rt rm).readDmem a =
      if a = (s.effAddr rs rt).toNat then s.readReg rd + s.readReg rm else s.readDmem a :=
  Memory.read_write s.dmem _ a _

/-- Settles O23: inside data memory `lw` ends like an arithmetic instruction, outside it in the address fault. -/
theorem lwLoadsTheWordPlusRm : Obligations.LwLoadsTheWordPlusRm := by
  intro s rd rs rt rm i1 i2
  rw [ofNat_add_toNat]
  exact ⟨fun haddr => exec_writesReg (exec_lw_of_lt rd rs rt rm i1 i2 haddr),
    fun haddr => ⟨_, exec_lw_of_ge rd rs rt rm i1 i2 haddr, s.addressFault_effect _⟩⟩

/-- Settles O24: inside data memory one word is written and the pc advances, outside it `sw` ends in the same fault as `lw`. -/
theorem swStoresTheSum : Obligations.SwStoresTheSum := by
  intro s rd rs rt rm i1 i2
  rw [ofNat_add_toNat]
  refine ⟨fun haddr => ⟨_, exec_sw_of_lt rd rs rt rm i1 i2 haddr, ?_, fun a hne => ?_, fun _ => rfl, fun _ => rfl, fun _ => rfl,
    fun _ => rfl, s.nextPc_toNat, fun _ => rfl, ⟨rfl, rfl, rfl, rfl, rfl⟩, rfl, rfl⟩,
    fun haddr => ⟨_, exec_sw_of_ge rd rs rt rm i1 i2 haddr, s.addressFault_effect _⟩⟩
  · rw [State.readDmem_afterStore, if_pos rfl]
  · rw [State.readDmem_afterStore, if_neg hne]

/-- Settles O25: the store changes no register, so the load has the same address, and reads the word just stored. -/
theorem loadSeesTheStoreBeforeIt : Obligations.LoadSeesTheStoreBeforeIt := by
  intro s rd rs rt rm rd' rm' i1 i2 j1 j2 haddr
  have haddr' : ((s.afterStore rd rs rt rm).effAddr rs rt).toNat < 4096 := haddr
  have hword : (s.afterStore rd rs rt rm).readDmem ((s.afterStore rd rs rt rm).effAddr rs rt).toNat =
      s.readReg rd + s.readReg rm := (s.readDmem_afterStore rd rs rt rm _).trans (if_pos rfl)
  refine ⟨_, _, exec_sw_of_lt rd rs rt rm i1 i2 haddr, exec_lw_of_lt rd' rs rt rm' j1 j2 haddr', ?_⟩
  rw [hword, ofNat_add_add]
  exact (s.afterStore rd rs rt rm).writeReg_regWritten rd' _

end Sys2Proof.Machine
end

section
/-!
`in`, `out`, `reti` and `halt` (44_io_system.md R200 to R207, 60_exceptions.md sections 4, 6 and 7): what each answers at an address
inside the bank, first the accesses to the bank, then the disk command, then the four instructions.
-/

namespace Sys2Proof.Machine

/-! ### Reading the bank (R203, R240, R241) -/

theorem State.ioRead_fst (s : State) (a : IorIdx) : (s.ioRead a).1 = s.getIor a := rfl

/-- Only a read of `monitorcmd` changes a word, and only that word. -/
theorem State.getIor_ioRead (s : State) (a b : IorIdx) :
    (s.ioRead a).2.getIor b = if b = Ior.monitorcmd ∧ a = Ior.monitorcmd then 0 else s.getIor b := by
  by_cases ha : a = Ior.monitorcmd <;> simp [State.ioRead, ha]

/-- A read of the bank leaves the registers as they are, so a register write after it is one from the state before. -/
theorem State.ioRead_writeReg_regWritten (s : State) (a : IorIdx) (rd : RegIdx) (v : Word) :
    s.RegWritten ((s.ioRead a).2.writeReg rd v) rd v := by
  obtain ⟨hparams, hregs, -⟩ := s.ioRead_frame a
  have hsame : (s.writeReg rd v).SameRegs ((s.ioRead a).2.writeReg rd v) :=
    State.sameRegs_of_eq hparams (State.writeReg_regs_congr hparams hregs rd v)
  obtain ⟨hrd, hother⟩ := s.writeReg_regWritten rd v
  exact ⟨(hsame rd).trans hrd, fun r hne => (hsame r).trans (hother r hne)⟩

/-! ### Writing the bank (R205, R242, R247 to R249) -/

/-- The one event of a store, by its stream (R272). -/
theorem State.emitHw_obs (s : State) (dir : TraceDir) (a : IorIdx) (v : Word) : (s.emitHw dir a v).obs =
    { s.obs with hwRegTrace := s.obs.hwRegTrace ++ [⟨s.cycle, dir, a, v⟩] } := rfl

theorem State.emitLed_obs (s : State) (v : Word) : (s.emitLed v).obs =
    { s.obs with ledLog := s.obs.ledLog ++ [⟨s.cycle, v⟩] } := rfl

theorem State.emitSeg_obs (s : State) (v : Word) : (s.emitSeg v).obs =
    { s.obs with segLog := s.obs.segLog ++ [⟨s.cycle, v⟩] } := rfl

/-- An instruction that has left the pc alone goes on to the next one (10_state.md R26). -/
theorem State.advance_advances {s u : State} (hpc : u.pc = s.pc) : s.Advances u.advance := by
  rw [State.Advances, State.advance_pc, hpc, ← s.nextPc_toNat, State.nextPc]

theorem State.stored_iorWritten (s : State) (a : IorIdx) (v : Word) : s.IorWritten (s.stored a v) a v :=
  fun b => s.getIor_setIor a b v

theorem State.ioWrite_of_plain {s : State} {a : IorIdx} (v : Word) (hleds : a ≠ Ior.leds) (hseg : a ≠ Ior.display7seg)
    (hdisk : a ≠ Ior.diskcmd) (hmonitor : a ≠ Ior.monitorcmd) : s.ioWrite a v = .completed (s.stored a v) := by
  simp only [State.ioWrite, if_neg hleds, if_neg hseg, if_neg hdisk, if_neg hmonitor]

theorem State.ioWrite_leds (s : State) (v : Word) :
    s.ioWrite Ior.leds v = .completed ((s.stored Ior.leds v).emitLed v) := rfl

theorem State.ioWrite_display7seg (s : State) (v : Word) :
    s.ioWrite Ior.display7seg v = .completed ((s.stored Ior.display7seg v).emitSeg v) := rfl

theorem State.ioWrite_diskcmd (s : State) (v : Word) :
    s.ioWrite Ior.diskcmd v = (s.stored Ior.diskcmd v).dmaIssue v := rfl

theorem State.ioWrite_monitorcmd (s : State) (v : Word) : s.ioWrite Ior.monitorcmd v =
    .completed (if v = 1 then (s.stored Ior.monitorcmd v).monitorCommit else s.stored Ior.monitorcmd v) := rfl

/-- The framebuffer after a commit reads as the low byte of `monitordata` at the place of `monitoraddr` (R262). -/
theorem State.readFb_monitorCommit (s : State) (k : Nat) : s.monitorCommit.readFb k =
    if k = (s.getIor Ior.monitoraddr).toNat % 65536 then BitVec.ofNat 8 (s.getIor Ior.monitordata).toNat
    else s.readFb k := by
  rw [State.readFb, State.monitorCommit_fb, Memory.read_write, pixelAddr_eq, extractLsb'_low_byte, State.readFb]

/-! ### The disk command (R226, R256) -/

/-- The state a launch leaves (R256). -/
abbrev State.launched (s : State) (v : Word) : State :=
  (((s.dmaCopy v).setIor Ior.diskstatus 1).setDiskTimer diskLatency).setIssued true

theorem State.dmaIssue_of_not_launches {s : State} {v : Word} (hstay : ¬ (s.getIor Ior.diskstatus = 0 ∧ (v = 1 ∨ v = 2))) :
    s.dmaIssue v = .completed s := by
  rw [← State.dmaLaunches_iff] at hstay
  rw [State.dmaIssue, if_neg hstay]

theorem State.dmaIssue_of_inRange {s : State} {v : Word} (hidle : s.getIor Ior.diskstatus = 0) (hcode : v = 1 ∨ v = 2)
    (hsector : (s.getIor Ior.disksector).toNat ≤ 127) (hbuffer : (s.getIor Ior.diskbuffer).toNat ≤ 3968) :
    s.dmaIssue v = .completed (s.launched v) := by
  have hinside : ¬ s.dmaOutOfRange = true := by
    rw [State.dmaOutOfRange_iff]
    omega
  rw [State.dmaIssue, if_pos ((s.dmaLaunches_iff v).mpr ⟨hidle, hcode⟩), if_neg hinside]

theorem State.dmaIssue_of_outOfRange {s : State} {v : Word} (hidle : s.getIor Ior.diskstatus = 0) (hcode : v = 1 ∨ v = 2)
    (hrange : 127 < (s.getIor Ior.disksector).toNat ∨ 3968 < (s.getIor Ior.diskbuffer).toNat) :
    s.dmaIssue v =
      .raised (s.raiseFault (.dmaRangeFault s.pc (s.getIor Ior.disksector) (s.getIor Ior.diskbuffer))) := by
  rw [State.dmaIssue, if_pos ((s.dmaLaunches_iff v).mpr ⟨hidle, hcode⟩), if_pos (s.dmaOutOfRange_iff.mpr hrange)]

/-- Data memory after the copy: the sector's words in the buffer of a read command. -/
theorem State.readDmem_dmaCopy (s : State) (v : Word) (a : Nat) : (s.dmaCopy v).readDmem a =
    if v = 1 ∧ (s.getIor Ior.diskbuffer).toNat ≤ a ∧ a < (s.getIor Ior.diskbuffer).toNat + 128
    then s.readDisk (s.getIor Ior.disksector).toNat (a - (s.getIor Ior.diskbuffer).toNat) else s.readDmem a := by
  rw [State.readDmem, State.dmaCopy_dmem, ite_and]
  split
  · exact Memory.read_copy _ _ _ _ _ _
  · rfl

/-- The disk after the copy: the buffer's words in the sector of a write command. Word `k` of sector `n` is in the window of a
sector exactly if `n` is that sector. -/
theorem State.readDisk_dmaCopy (s : State) (v : Word) (n : Nat) {k : Nat} (hk : k < 128) : (s.dmaCopy v).readDisk n k =
    if v = 2 ∧ n = (s.getIor Ior.disksector).toNat
    then s.readDmem ((s.getIor Ior.diskbuffer).toNat + k) else s.readDisk n k := by
  have hwindow : (diskAddr (s.getIor Ior.disksector).toNat 0 ≤ diskAddr n k ∧
      diskAddr n k < diskAddr (s.getIor Ior.disksector).toNat 0 + 128) ↔ n = (s.getIor Ior.disksector).toNat := by
    simp only [diskAddr]
    omega
  rw [State.readDisk, State.dmaCopy_disk, ite_and]
  split
  · rw [Memory.read_copy]
    refine if_ctx_congr hwindow (fun hn => ?_) fun _ => rfl
    rw [State.readDmem, hn]
    congr 1
    simp only [diskAddr]
    omega
  · rfl

/-! ### What the four instructions answer -/

section
variable (rd rs rt rm : RegIdx) (i1 i2 : Imm) {s : State} {a : IorIdx}

theorem exec_ioIn_of_ioAddr (haddr : (s.ioAddr rs rt).toNat = a.val) : exec (.ioIn rd rs rt rm i1 i2) s =
    .next (((s.ioRead a).2.writeReg rd (s.getIor a)).emitHw .read a (s.getIor a)).advance := by
  simp only [exec, execIn, ioSlot_eq_some.mpr haddr, State.ioRead_fst]

theorem exec_ioOut_of_completed {t : State} (haddr : (s.ioAddr rs rt).toNat = a.val)
    (hwrite : s.ioWrite a (s.readReg rm) = .completed t) : exec (.ioOut rd rs rt rm i1 i2) s = .next t.advance := by
  simp only [exec, execOut, ioSlot_eq_some.mpr haddr, hwrite]

theorem exec_ioOut_of_raised {t : State} (haddr : (s.ioAddr rs rt).toNat = a.val)
    (hwrite : s.ioWrite a (s.readReg rm) = .raised t) : exec (.ioOut rd rs rt rm i1 i2) s = .next t := by
  simp only [exec, execOut, ioSlot_eq_some.mpr haddr, hwrite]

theorem exec_reti_of_ioAddr (haddr : (s.ioAddr rs rt).toNat = a.val) : exec (.reti rd rs rt rm i1 i2) s =
    .next (s.returnFromInterrupt.emitReti a) := by
  simp only [exec, execReti, ioSlot_eq_some.mpr haddr]

theorem exec_halt_of_idle (hidle : s.diskTimer = 0) : exec (.halt rd rs rt rm i1 i2) s =
    .next ((s.setRunState .halted).setCycle (s.cycle + 1)) := by
  simp only [exec, execHalt, if_pos hidle]

theorem exec_halt_of_counting (hcounting : s.diskTimer ≠ 0) : exec (.halt rd rs rt rm i1 i2) s = .next s := by
  simp only [exec, execHalt, if_neg hcounting]

end

/-! ### The obligations -/

/-- Settles O27: the value is taken before the clear, and the register write and the event come from the state before it. -/
theorem inReadsTheWord : Obligations.InReadsTheWord := by
  intro s rd rs rt rm i1 i2 a haddr
  obtain ⟨hparams, -, hpc, himem, hdmem, htimer, hmark, hptr, hcycle, hrun, hdisk, hfb⟩ := s.ioRead_frame a
  refine ⟨_, exec_ioIn_of_ioAddr rd rs rt rm i1 i2 haddr, s.ioRead_writeReg_regWritten a rd _, State.advance_advances hpc,
    s.getIor_ioRead a, State.sameMemories_of_eq himem hdmem hdisk hfb, ⟨hparams, htimer, hmark, hptr, hcycle⟩, hrun, ?_⟩
  simp [State.TracesHw, State.emitHw_obs]

/-- Settles O28: none of the four side effects applies, so only the store and its event are left. -/
theorem outStoresPlainWords : Obligations.OutStoresPlainWords := by
  intro s rd rs rt rm i1 i2 a haddr hleds hseg hdisk hmonitor
  refine ⟨_, exec_ioOut_of_completed rd rs rt rm i1 i2 haddr (State.ioWrite_of_plain _ hleds hseg hdisk hmonitor),
    s.stored_iorWritten a _, State.advance_advances rfl, ?_⟩
  simp [State.SameRegs, State.SameMemories, State.SameHidden, State.TracesHw, State.emitHw_obs]

/-- Settles O29: the store, its event, and one event in the log of the latch. -/
theorem outLatchesAndLogs : Obligations.OutLatchesAndLogs := by
  intro s rd rs rt rm i1 i2 a haddr hlatch
  rcases hlatch with rfl | rfl
  · refine ⟨_, exec_ioOut_of_completed rd rs rt rm i1 i2 haddr (s.ioWrite_leds _), s.stored_iorWritten _ _,
      State.advance_advances rfl, ?_⟩
    simp [State.SameRegs, State.SameMemories, State.SameHidden, State.emitLed_obs, State.emitHw_obs]
  · refine ⟨_, exec_ioOut_of_completed rd rs rt rm i1 i2 haddr (s.ioWrite_display7seg _), s.stored_iorWritten _ _,
      State.advance_advances rfl, ?_⟩
    simp [State.SameRegs, State.SameMemories, State.SameHidden, State.emitSeg_obs, State.emitHw_obs]

/-- Settles O30: with the value 1 the commit reads the two monitor words, which the store to `monitorcmd` has left; with another
value the store is all. -/
theorem outOfOneCommitsThePixel : Obligations.OutOfOneCommitsThePixel := by
  intro s rd rs rt rm i1 i2 haddr
  have hwrite := s.ioWrite_monitorcmd (s.readReg rm)
  by_cases hone : s.readReg rm = 1
  · rw [if_pos hone] at hwrite
    refine ⟨_, exec_ioOut_of_completed rd rs rt rm i1 i2 haddr hwrite, s.stored_iorWritten _ _, State.advance_advances rfl, ?_⟩
    simp [State.SameRegs, State.SameHidden, State.TracesHw, State.emitHw_obs, State.readFb_monitorCommit, hone]
  · rw [if_neg hone] at hwrite
    refine ⟨_, exec_ioOut_of_completed rd rs rt rm i1 i2 haddr hwrite, s.stored_iorWritten _ _, State.advance_advances rfl,
      fun k => ?_, ?_⟩
    · rw [if_neg fun hcommit => hone hcommit.1]
      simp
    · simp [State.SameRegs, State.SameHidden, State.TracesHw, State.emitHw_obs]

/-- The words a disk command reads are not the one its store wrote. -/
theorem State.stored_diskcmd_words (s : State) (v : Word) :
    (s.stored Ior.diskcmd v).getIor Ior.diskstatus = s.getIor Ior.diskstatus ∧
      (s.stored Ior.diskcmd v).getIor Ior.disksector = s.getIor Ior.disksector ∧
      (s.stored Ior.diskcmd v).getIor Ior.diskbuffer = s.getIor Ior.diskbuffer := by
  simp

/-- Settles O31: the launch test fails, so the issue leaves the stored state as it is. -/
theorem diskCommandWithoutLaunchIsStored : Obligations.DiskCommandWithoutLaunchIsStored := by
  intro s rd rs rt rm i1 i2 haddr hstay
  obtain ⟨hstatus, -, -⟩ := s.stored_diskcmd_words (s.readReg rm)
  have hwrite := s.ioWrite_diskcmd (s.readReg rm)
  rw [State.dmaIssue_of_not_launches (by rw [hstatus]; tauto)] at hwrite
  refine ⟨_, exec_ioOut_of_completed rd rs rt rm i1 i2 haddr hwrite, s.stored_iorWritten _ _, State.advance_advances rfl, ?_⟩
  simp [State.SameRegs, State.SameMemories, State.SameHidden, State.TracesHw, State.emitHw_obs]

/-- Settles O32: the launch from the stored state, with the copy read off window by window. -/
theorem diskCommandCopiesTheSector : Obligations.DiskCommandCopiesTheSector := by
  intro s rd rs rt rm i1 i2 haddr hidle hcode hsector hbuffer
  obtain ⟨hstatus, hsectorWord, hbufferWord⟩ := s.stored_diskcmd_words (s.readReg rm)
  have hwrite := s.ioWrite_diskcmd (s.readReg rm)
  rw [State.dmaIssue_of_inRange (hstatus.trans hidle) hcode (hsectorWord ▸ hsector) (hbufferWord ▸ hbuffer)] at hwrite
  refine ⟨_, exec_ioOut_of_completed rd rs rt rm i1 i2 haddr hwrite, State.advance_advances (by simp), ?_, fun b => ?_, ?_, ?_,
    fun a => ?_, fun k hk n _ => ?_, ?_⟩
  · simp [State.SameRegs]
  · have hne : Ior.diskcmd ≠ Ior.diskstatus := by decide
    by_cases hb : b = Ior.diskcmd
    · subst hb
      simp
    · simp [hb]
  · simp
  · simp
  · have hcopy := (s.stored Ior.diskcmd (s.readReg rm)).readDmem_dmaCopy (s.readReg rm) a
    rw [hsectorWord, hbufferWord] at hcopy
    simpa using hcopy
  · have hcopy := (s.stored Ior.diskcmd (s.readReg rm)).readDisk_dmaCopy (s.readReg rm) n hk
    rw [hsectorWord, hbufferWord] at hcopy
    simpa using hcopy
  · simp [State.TracesHw, State.emitHw_obs]

/-- Settles O33: the issue raises the fault in the stored state, before the copy, so nothing else has happened. -/
theorem diskCommandOutOfRangeFaults : Obligations.DiskCommandOutOfRangeFaults := by
  intro s rd rs rt rm i1 i2 haddr hidle hcode hrange
  obtain ⟨hstatus, hsectorWord, hbufferWord⟩ := s.stored_diskcmd_words (s.readReg rm)
  have hwrite := s.ioWrite_diskcmd (s.readReg rm)
  rw [State.dmaIssue_of_outOfRange (hstatus.trans hidle) hcode (by rw [hsectorWord, hbufferWord]; exact hrange),
    hsectorWord, hbufferWord] at hwrite
  refine ⟨_, exec_ioOut_of_raised rd rs rt rm i1 i2 haddr hwrite, rfl, rfl, s.stored_iorWritten _ _, ?_⟩
  simp [State.SameRegs, State.SameMemories, State.SameHidden, State.TracesHw, State.emitHw_obs]

/-- The return address as a number (10_state.md R33). -/
theorem State.returnPc_toNat (s : State) : s.returnPc.toNat = (s.getIor Ior.irqreturn).toNat % 4096 :=
  low12_toNat (s.getIor Ior.irqreturn)

/-- The trace event of a `reti` (R272): none at address 0, one with free fields at another. -/
theorem State.emitReti_of_ne_zero {s : State} {a : IorIdx} (hne : a ≠ 0) : ∃ dir v, s.emitReti a = s.emitHw dir a v :=
  ⟨_, _, if_neg hne⟩

/-- Settles O34: the return sets the pc alone, and the trace event touches nothing but its stream. -/
theorem retiRestoresThePc : Obligations.RetiRestoresThePc := by
  intro s rd rs rt rm i1 i2 a haddr
  obtain ⟨hparams, hregs, hpc, himem, hdmem, hior, htimer, hmark, hptr, hcycle, hrun, hdisk, hfb⟩ :=
    s.returnFromInterrupt.emitReti_frame a
  refine ⟨_, exec_reti_of_ioAddr rd rs rt rm i1 i2 haddr, ?_, State.sameRegs_of_eq hparams hregs,
    State.sameMemories_of_eq himem hdmem hdisk hfb, fun b => by simp only [State.getIor, hior]; rfl,
    ⟨hparams, htimer, hmark, hptr, hcycle⟩, hrun, fun hzero => ?_, fun hne => ?_⟩
  · rw [hpc, State.returnFromInterrupt_pc, State.returnPc_toNat]
  · rw [State.emitReti, if_pos hzero, State.returnFromInterrupt_obs]
  · obtain ⟨dir, v, hemit⟩ := s.returnFromInterrupt.emitReti_of_ne_zero hne
    exact ⟨dir, v, by rw [hemit]; rfl⟩

/-- Settles O35: the two branches of `halt`. -/
theorem haltHaltsOrParks : Obligations.HaltHaltsOrParks := fun _ rd rs rt rm i1 i2 =>
  ⟨exec_halt_of_idle rd rs rt rm i1 i2, exec_halt_of_counting rd rs rt rm i1 i2⟩

end Sys2Proof.Machine
end

section
/-!
The interrupt controller's guard, the return after an entry, and the devices over one and over many steps (60_exceptions.md
sections 2, 5 and 6, 40_cycle_engine.md R129).
-/

namespace Sys2Proof.Machine

/-! ### When phase P10 does nothing (R230, R232) -/

theorem State.interruptStep_of_masked {s : State} (hline : s.interruptLine = 0) : s.interruptStep = s := by
  rcases s.interruptStep_cases with ⟨hraised, -, -⟩ | ⟨-, hkeep⟩
  · exact absurd hline hraised
  · exact hkeep

theorem State.interruptStep_of_guarded {s : State} (hat : s.pc = s.handlerPc) : s.interruptStep = s := by
  rcases s.interruptStep_cases with ⟨-, haway, -⟩ | ⟨-, hkeep⟩
  · exact absurd hat haway
  · exact hkeep

/-- Settles O37: three ANDs of 0 make the line 0, and equal numbers of 12 bits are equal program counters. -/
theorem noInterruptWhenMaskedOrGuarded : Obligations.NoInterruptWhenMaskedOrGuarded := by
  intro s hcause
  rcases hcause with ⟨h0, h1, h2⟩ | hat
  · refine State.interruptStep_of_masked ?_
    have hline : s.interruptLine =
        (s.getIor 0 &&& s.getIor 3) ||| (s.getIor 1 &&& s.getIor 4) ||| (s.getIor 2 &&& s.getIor 5) := rfl
    rw [hline, h0, h1, h2]
    rfl
  · exact State.interruptStep_of_guarded (BitVec.eq_of_toNat_eq (hat.trans s.handlerPc_toNat.symm))

/-- An entry does not write the handler word, so it leaves the guard holding. -/
theorem State.takeInterrupt_pc_eq_handlerPc (s : State) : s.takeInterrupt.pc = s.takeInterrupt.handlerPc := by
  rw [State.takeInterrupt_pc, State.handlerPc, State.handlerPc,
    s.takeInterrupt_getIor_of_ne (by decide) (by decide) (by decide) (by decide)]

/-- Settles O38: the first evaluation changes nothing, or enters and leaves the guard holding for the second. -/
theorem interruptStepIsIdempotent : Obligations.InterruptStepIsIdempotent := by
  intro s
  rcases s.interruptStep_cases with ⟨-, -, hentry⟩ | ⟨-, hkeep⟩
  · rw [hentry, State.interruptStep_of_guarded s.takeInterrupt_pc_eq_handlerPc]
  · rw [hkeep, hkeep]

/-- The return register an entry leaves leads back to the interrupted pc: 12 bits survive the extension to a word. -/
theorem State.takeInterrupt_returnPc (s : State) : s.takeInterrupt.returnPc = s.pc := by
  rw [State.returnPc, State.takeInterrupt_getIor_irqreturn, low12_zext32]

/-- Settles O39: an entry changes no register, so the address of the `reti` is still valid, and its return goes back. -/
theorem retiUndoesTheEntry : Obligations.RetiUndoesTheEntry := by
  intro s rd rs rt rm i1 i2 hvalid
  have haddr : (s.takeInterrupt.ioAddr rs rt).toNat =
      (⟨(s.ioAddr rs rt).toNat, Nat.lt_succ_of_le hvalid⟩ : IorIdx).val := rfl
  obtain ⟨hparams, hregs, hpc, -⟩ := s.takeInterrupt.returnFromInterrupt.emitReti_frame
    ⟨(s.ioAddr rs rt).toNat, Nat.lt_succ_of_le hvalid⟩
  refine ⟨_, exec_reti_of_ioAddr rd rs rt rm i1 i2 haddr, ?_, State.sameRegs_of_eq hparams hregs⟩
  rw [hpc, State.returnFromInterrupt_pc, State.takeInterrupt_returnPc]

/-! ### The external source (R129) -/

/-- Settles O40: the two branches of phase P7. -/
theorem externalSourcePulsesOnSchedule : Obligations.ExternalSourcePulsesOnSchedule := by
  intro s
  rcases s.externalStep_cases with ⟨hdue, hpulse⟩ | ⟨hidle, hkeep⟩
  · refine ⟨fun _ => ?_, fun hidle => absurd hdue hidle⟩
    rw [hpulse]
    simp +contextual [State.SameRegs, State.SameMemories]
  · exact ⟨fun hdue => absurd hdue hidle, fun _ => hkeep⟩

/-! ### The timer (R250) -/

/-- Everything but the two words of the timer is the same. -/
def State.SameButTimer (s t : State) : Prop :=
  (∀ a, a ≠ Ior.timercurrent → a ≠ Ior.irq0status → t.getIor a = s.getIor a) ∧
    t.pc = s.pc ∧ s.SameRegs t ∧ s.SameMemories t ∧ s.SameHidden t ∧ t.runState = s.runState ∧ t.obs = s.obs

theorem State.SameButTimer.refl (s : State) : s.SameButTimer s := by
  simp [State.SameButTimer, State.SameRegs, State.SameMemories, State.SameHidden]

/-- The timer's enable and maximum are not among its own two words. -/
theorem State.SameButTimer.controls {s t : State} (hsame : s.SameButTimer t) :
    t.getIor Ior.timerenable = s.getIor Ior.timerenable ∧ t.getIor Ior.timermax = s.getIor Ior.timermax := by
  obtain ⟨hwords, -⟩ := hsame
  exact ⟨hwords _ (by decide) (by decide), hwords _ (by decide) (by decide)⟩

theorem State.timerStep_of_disabled {s : State} (hoff : s.getIor Ior.timerenable ≠ 1) : s.timerStep = s := by
  rw [State.timerStep, if_neg hoff]

theorem State.timerStep_of_last {s : State} (hon : s.getIor Ior.timerenable = 1)
    (hlast : s.getIor Ior.timercurrent + 1 = s.getIor Ior.timermax) :
    s.timerStep = (s.setIor Ior.irq0status 1).setIor Ior.timercurrent 0 := by
  rw [State.timerStep, if_pos hon, if_pos hlast]

theorem State.timerStep_of_not_last {s : State} (hon : s.getIor Ior.timerenable = 1)
    (hnot : s.getIor Ior.timercurrent + 1 ≠ s.getIor Ior.timermax) :
    s.timerStep = s.setIor Ior.timercurrent (s.getIor Ior.timercurrent + 1) := by
  rw [State.timerStep, if_pos hon, if_neg hnot]

/-- A timer step keeps what the states before it had in common outside the timer. -/
theorem State.SameButTimer.timerStep {s t : State} (hsame : s.SameButTimer t) : s.SameButTimer t.timerStep := by
  obtain ⟨hwords, hpc, hregs, hmemories, hhidden, hrun, hobs⟩ := hsame
  rcases t.timerStep_cases with ⟨-, -, hstep⟩ | ⟨-, -, hstep⟩ | ⟨-, hstep⟩ <;> rw [hstep]
  · refine ⟨fun a hcurrent hstatus => ?_, hpc, hregs, hmemories, hhidden, hrun, hobs⟩
    rw [State.getIor_setIor, if_neg hcurrent, State.getIor_setIor, if_neg hstatus]
    exact hwords a hcurrent hstatus
  · refine ⟨fun a hcurrent hstatus => ?_, hpc, hregs, hmemories, hhidden, hrun, hobs⟩
    rw [State.getIor_setIor, if_neg hcurrent]
    exact hwords a hcurrent hstatus
  · exact ⟨hwords, hpc, hregs, hmemories, hhidden, hrun, hobs⟩

theorem State.sameButTimer_iterate_timerStep (s : State) (k : Nat) : s.SameButTimer (State.timerStep^[k] s) :=
  Function.Iterate.rec s.SameButTimer (State.SameButTimer.refl s) (fun _ => State.SameButTimer.timerStep) k

/-- The comparison of the timer as one of numbers. -/
theorem add_one_eq_iff_toNat {a b : Word} : a + 1 = b ↔ (a.toNat + 1) % 2 ^ 32 = b.toNat := by
  rw [← BitVec.toNat_inj, BitVec.toNat_add]
  rfl

/-- Settles O60: the comparison of words is the statement's comparison of numbers, and decides which branch runs. -/
theorem timerStepCountsOrFires : Obligations.TimerStepCountsOrFires := by
  intro s
  refine ⟨fun hon hlast => ?_, fun hon hnot => ?_, State.timerStep_of_disabled, (State.SameButTimer.refl s).timerStep⟩
  · rw [State.timerStep_of_last hon (add_one_eq_iff_toNat.mpr hlast)]
    simp
  · rw [State.timerStep_of_not_last hon (mt add_one_eq_iff_toNat.mp hnot)]
    simp

/-- Counting modulo `n`: the next remainder is one more, and starts again at `n`. -/
theorem succ_mod_eq_ite (k : Nat) {n : Nat} (hn : 0 < n) : (k + 1) % n = if k % n + 1 = n then 0 else k % n + 1 := by
  have hlt : k % n < n := Nat.mod_lt k hn
  rw [← Nat.mod_add_mod]
  split
  · next hlast => rw [hlast, Nat.mod_self]
  · next hnot => rw [Nat.mod_eq_of_lt (by omega)]

/-- The two words of the timer after `k` steps from a counter of 0. The status is up from step `N` on: the step that reaches `N` is
the first to fire, because up to it the remainder is `k` itself. -/
theorem State.iterate_timerStep_words {s : State} (hon : s.getIor Ior.timerenable = 1)
    (hstart : s.getIor Ior.timercurrent = 0) (hmax : s.getIor Ior.timermax ≠ 0) (k : Nat) :
    ((State.timerStep^[k] s).getIor Ior.timercurrent).toNat = k % (s.getIor Ior.timermax).toNat ∧
      (State.timerStep^[k] s).getIor Ior.irq0status =
        if (s.getIor Ior.timermax).toNat ≤ k then 1 else s.getIor Ior.irq0status := by
  have hpos : 0 < (s.getIor Ior.timermax).toNat :=
    Nat.pos_of_ne_zero fun hzero => hmax (BitVec.eq_of_toNat_eq hzero)
  induction k with
  | zero => exact ⟨by rw [Nat.zero_mod]; exact congrArg BitVec.toNat hstart, by rw [if_neg hpos.not_ge]; rfl⟩
  | succ k ih =>
    obtain ⟨hcount, hstatus⟩ := ih
    obtain ⟨henable, hmaximum⟩ := (s.sameButTimer_iterate_timerStep k).controls
    rw [hon] at henable
    rw [Function.iterate_succ_apply', succ_mod_eq_ite k hpos]
    generalize State.timerStep^[k] s = t at *
    have hbelow : k % (s.getIor Ior.timermax).toNat < (s.getIor Ior.timermax).toNat := Nat.mod_lt k hpos
    have hfits : (s.getIor Ior.timermax).toNat < 2 ^ 32 := (s.getIor Ior.timermax).isLt
    have hle : k % (s.getIor Ior.timermax).toNat ≤ k := Nat.mod_le k _
    have hnext : (t.getIor Ior.timercurrent + 1).toNat = k % (s.getIor Ior.timermax).toNat + 1 := by
      have hsum : (t.getIor Ior.timercurrent + 1).toNat = ((t.getIor Ior.timercurrent).toNat + 1) % 2 ^ 32 :=
        BitVec.toNat_add _ _
      rw [hsum, hcount, Nat.mod_eq_of_lt (by omega)]
    by_cases hlast : k % (s.getIor Ior.timermax).toNat + 1 = (s.getIor Ior.timermax).toNat
    · rw [if_pos hlast, if_pos (by omega), State.timerStep_of_last henable
        (BitVec.eq_of_toNat_eq (by rw [hnext, hmaximum, hlast]))]
      simp
    · have hthreshold : (s.getIor Ior.timermax).toNat ≤ k + 1 ↔ (s.getIor Ior.timermax).toNat ≤ k := by
        refine ⟨fun hreached => Nat.le_of_not_lt fun hbefore => hlast ?_, Nat.le_succ_of_le⟩
        rw [Nat.mod_eq_of_lt hbefore]
        omega
      rw [if_neg hlast, if_congr hthreshold rfl rfl, State.timerStep_of_not_last henable
        fun hequal => hlast (by rw [← hnext, hequal, hmaximum])]
      simp [hstatus, ← hnext]

/-- Settles O41: a disabled timer is a fixed point of the step; an enabled one counts modulo its maximum. -/
theorem timerWrapsEveryNSteps : Obligations.TimerWrapsEveryNSteps := by
  refine ⟨fun s k hoff => Function.iterate_fixed (State.timerStep_of_disabled hoff) k, fun s k hon hstart hmax => ?_⟩
  obtain ⟨hcount, hstatus⟩ := State.iterate_timerStep_words hon hstart hmax k
  exact ⟨hcount, hstatus, s.sameButTimer_iterate_timerStep k⟩

/-! ### The disk (R256, R257) -/

/-- In the cycle of an issue the countdown runs only under the parameter (D18). -/
theorem State.diskCounts_of_issued {s : State} (hissued : s.issuedThisCycle = true) (hcounting : s.diskTimer ≠ 0) :
    s.diskCounts = s.params.diskCountdownInIssueCycle := by
  simp [State.diskCounts, hissued, hcounting]

/-- In a cycle without an issue the countdown runs until it is 0. -/
theorem State.diskCounts_of_not_issued {s : State} (hissued : s.issuedThisCycle = false) :
    s.diskCounts = true ↔ s.diskTimer ≠ 0 := by
  simp [State.diskCounts, hissued]

/-- The three words a completion writes (R257). -/
theorem State.getIor_diskComplete (s : State) (a : IorIdx) : s.diskComplete.getIor a =
    if a = Ior.irq1status then 1 else if a = Ior.diskstatus ∨ a = Ior.diskcmd then 0 else s.getIor a := by
  rw [State.diskComplete, State.getIor_setIor, State.getIor_setIor, State.getIor_setIor]
  by_cases hcmd : a = Ior.diskcmd <;> simp [hcmd]

/-- What the statement says of a countdown `k` steps after it was at `n` in `s`. -/
def State.CountedDown (s : State) (n k : Nat) (t : State) : Prop :=
  t.issuedThisCycle = false ∧ t.diskTimer = n - k ∧
    ∀ a, t.getIor a = if k < n then s.getIor a else s.diskComplete.getIor a

/-- One more disk step: the last count completes the command, an earlier one only counts, and a later step does nothing. -/
theorem State.CountedDown.succ {s t : State} {n k : Nat} (hdown : s.CountedDown n k t) :
    s.CountedDown n (k + 1) t.diskStep := by
  obtain ⟨hissued, htimer, hwords⟩ := hdown
  rcases t.diskStep_cases with ⟨-, hone, hstep⟩ | ⟨hcounts, hmore, hstep⟩ | ⟨hstays, hstep⟩
  · refine ⟨by rw [hstep]; rfl, by rw [hstep]; change 0 = n - (k + 1); omega, fun a => ?_⟩
    rw [hstep, if_neg (by omega), State.getIor_diskComplete, State.getIor_diskComplete]
    simp only [State.setDiskTimer_getIor, State.setIssued_getIor, hwords a, if_pos (show k < n by omega)]
  · rw [State.diskCounts_of_not_issued hissued] at hcounts
    refine ⟨by rw [hstep]; rfl, by rw [hstep]; change t.diskTimer - 1 = n - (k + 1); omega, fun a => ?_⟩
    rw [hstep, if_pos (by omega)]
    simp only [State.setDiskTimer_getIor, State.setIssued_getIor, hwords a, if_pos (show k < n by omega)]
  · have hzero : t.diskTimer = 0 := by
      by_contra hne
      rw [(State.diskCounts_of_not_issued hissued).mpr hne] at hstays
      cases hstays
    refine ⟨by rw [hstep]; rfl, by rw [hstep]; change t.diskTimer = n - (k + 1); omega, fun a => ?_⟩
    rw [hstep, if_neg (by omega)]
    simp only [State.setIssued_getIor, hwords a, if_neg (show ¬ k < n by omega)]

theorem State.iterate_diskStep_countedDown {s : State} (hissued : s.issuedThisCycle = false) (hcounting : s.diskTimer ≠ 0)
    (k : Nat) : s.CountedDown s.diskTimer k (State.diskStep^[k] s) := by
  induction k with
  | zero => exact ⟨hissued, rfl, fun a => (if_pos (Nat.pos_of_ne_zero hcounting)).symm⟩
  | succ k ih =>
    rw [Function.iterate_succ_apply']
    exact ih.succ

/-- Disk steps leave the pc, the registers and the memories. -/
theorem State.iterate_diskStep_frame (s : State) (k : Nat) :
    (State.diskStep^[k] s).pc = s.pc ∧ s.SameRegs (State.diskStep^[k] s) ∧ s.SameMemories (State.diskStep^[k] s) := by
  induction k with
  | zero => exact ⟨rfl, fun _ => rfl, State.sameMemories_of_eq rfl rfl rfl rfl⟩
  | succ k ih =>
    obtain ⟨hpc, hregs, himem, hdmem, hdisk, hfb⟩ := ih
    rw [Function.iterate_succ_apply']
    generalize State.diskStep^[k] s = t at *
    obtain ⟨hparams', hregs', hpc', himem', hdmem', hdisk', hfb', -⟩ := t.diskStep_frame
    obtain ⟨jimem, jdmem, jdisk, jfb⟩ := State.sameMemories_of_eq himem' hdmem' hdisk' hfb'
    exact ⟨hpc'.trans hpc, fun r => (State.sameRegs_of_eq hparams' hregs' r).trans (hregs r),
      fun a => (jimem a).trans (himem a), fun a => (jdmem a).trans (hdmem a), fun a => (jdisk a).trans (hdisk a),
      fun a => (jfb a).trans (hfb a)⟩

/-- Settles O42: in the issuing cycle the parameter decides whether the step counts, and it cannot complete from above 1; in the
cycles after it the countdown runs to the completion. -/
theorem diskCompletesWhenTheCountEnds : Obligations.DiskCompletesWhenTheCountEnds := by
  refine ⟨fun s hissued htimer => ?_, fun s k hissued hcounting => ?_⟩
  · have hparameter := State.diskCounts_of_issued hissued (by omega)
    rcases s.diskStep_cases with ⟨-, hone, -⟩ | ⟨hcounts, -, hstep⟩ | ⟨hstays, hstep⟩
    · omega
    · rw [hstep, if_pos (hparameter ▸ hcounts)]
      exact ⟨rfl, rfl, fun _ => rfl⟩
    · rw [hstep, if_neg (by rw [← hparameter, hstays]; decide)]
      exact ⟨rfl, rfl, fun _ => rfl⟩
  · obtain ⟨-, htimer, hwords⟩ := State.iterate_diskStep_countedDown hissued hcounting k
    refine ⟨htimer, fun hbefore a => (hwords a).trans (if_pos hbefore), fun hended a => ?_, s.iterate_diskStep_frame k⟩
    rw [hwords a, if_neg hended.not_gt, State.getIor_diskComplete]

/-- Settles O43: the write leaves the buffer's words in the sector, and the read brings the sector's words to its own buffer. -/
theorem sectorWriteThenReadRoundTrips : Obligations.SectorWriteThenReadRoundTrips := by
  intro s hidle hsector hbuffer
  refine ⟨_, State.dmaIssue_of_inRange hidle (.inr rfl) hsector hbuffer, fun u hdisk hidle' hsector' hbuffer' => ?_⟩
  refine ⟨_, State.dmaIssue_of_inRange hidle' (.inl rfl) (hsector' ▸ hsector) hbuffer', fun i hi => ?_⟩
  have hwritten : u.readDisk (s.getIor Ior.disksector).toNat i = s.readDmem ((s.getIor Ior.diskbuffer).toNat + i) := by
    have hcopied := s.readDisk_dmaCopy 2 (s.getIor Ior.disksector).toNat hi
    rw [if_pos ⟨rfl, rfl⟩] at hcopied
    rw [← hcopied, State.readDisk, hdisk]
    rfl
  have hread := u.readDmem_dmaCopy 1 ((u.getIor Ior.diskbuffer).toNat + i)
  rw [if_pos ⟨rfl, by omega, by omega⟩, Nat.add_sub_cancel_left, hsector', hwritten] at hread
  simpa using hread

end Sys2Proof.Machine
end

section
/-!
What a step does not read (10_state.md sections 1 and 5, 60_exceptions.md section 9): the registers and words the first phases
write again, and the observation streams; and that the streams only grow.
-/

namespace Sys2Proof.Machine

/-! ### Registers and words written again in phases P1, P2 and P4 -/

/-- A step of a RUNNING machine is a function of the prepared state alone. -/
theorem step_congr_of_prepared_eq {s s' : State} (hrun : s.runState = .running) (hsame : s'.prepared = s.prepared) :
    step s' = step s := by
  have hrun' : s'.runState = .running := (congrArg State.runState hsame).trans hrun
  have hstep : step s = s.prepared.executeWord s.prepared.fetch := by simp only [step, hrun]; rfl
  have hstep' : step s' = s'.prepared.executeWord s'.prepared.fetch := by simp only [step, hrun']; rfl
  rw [hstep, hstep', hsame]

theorem State.setIor_setIor_same (s : State) (a : IorIdx) (v w : Word) : (s.setIor a v).setIor a w = s.setIor a w := by
  simp only [State.setIor, Vector.set_set]

theorem State.setIor_comm (s : State) {a b : IorIdx} (hne : a ≠ b) (v w : Word) :
    (s.setIor a v).setIor b w = (s.setIor b w).setIor a v := by
  have hindex : a.val ≠ b.val := fun h => hne (Fin.ext h)
  simp only [State.setIor, Vector.set_comm _ _ hindex]

theorem State.loadImmediates_writeReg_one (s : State) (v : Word) (a b : Imm) :
    (s.writeReg 1 v).loadImmediates a b = s.loadImmediates a b := by
  have hhard : s.isHardwired 1 = false := Bool.and_false _
  simp only [State.loadImmediates, State.writeReg, hhard]
  congr 2
  exact Vector.set_set v _

theorem State.loadImmediates_writeReg_two (s : State) (v : Word) (a b : Imm) :
    (s.writeReg 2 v).loadImmediates a b = s.loadImmediates a b := by
  have hhard : s.isHardwired 2 = false := Bool.and_false _
  simp only [State.loadImmediates, State.writeReg, hhard]
  have hoverwritten : ((s.regs.set 2 v).set 1 (sext32 a)).set 2 (sext32 b) = (s.regs.set 1 (sext32 a)).set 2 (sext32 b) := by
    rw [Vector.set_comm v (sext32 a) (by decide), Vector.set_set]
  congr 1

/-- Settles O56: each of the four values is written again before phase P5, so the prepared state does not depend on it. -/
theorem reloadedStateIsNeverObserved : Obligations.ReloadedStateIsNeverObserved := by
  intro s v hrun
  refine ⟨step_congr_of_prepared_eq hrun ?_, step_congr_of_prepared_eq hrun ?_, step_congr_of_prepared_eq hrun ?_,
    step_congr_of_prepared_eq hrun ?_⟩
  · exact congrArg (State.emitInstr · s.fetch) (s.beginCycle.loadImmediates_writeReg_one v _ _)
  · exact congrArg (State.emitInstr · s.fetch) (s.beginCycle.loadImmediates_writeReg_two v _ _)
  · have hbegin : (s.setIor Ior.clks v).beginCycle = s.beginCycle :=
      congrArg (State.setIor · Ior.irq2status 0) ((s.setIssued false).setIor_setIor_same Ior.clks v _)
    rw [State.prepared, hbegin, State.prepared]
  · have hbegin : (s.setIor Ior.irq2status v).beginCycle = s.beginCycle := by
      have hcomm := (s.setIssued false).setIor_comm (show Ior.irq2status ≠ Ior.clks by decide) v (BitVec.ofNat 32 s.cycle)
      exact (congrArg (State.setIor · Ior.irq2status 0) hcomm).trans (State.setIor_setIor_same _ _ _ _)
    rw [State.prepared, hbegin, State.prepared]

/-! ### Other streams -/

/-- The state with other observation streams. -/
def State.withObs (s : State) (o : Observations) : State := { s with obs := o }

section
variable (s : State) (o : Observations)

theorem State.withObs_externalStep : (s.withObs o).externalStep = s.externalStep.withObs o := by
  rw [State.externalStep, State.externalStep, apply_ite (State.withObs · o)]
  rfl

theorem State.withObs_diskStep : (s.withObs o).diskStep = s.diskStep.withObs o := by
  rw [State.diskStep, State.diskStep, apply_ite (State.withObs · o), apply_ite (State.withObs · o)]
  rfl

theorem State.withObs_timerStep : (s.withObs o).timerStep = s.timerStep.withObs o := by
  rw [State.timerStep, State.timerStep, apply_ite (State.withObs · o), apply_ite (State.withObs · o)]
  rfl

theorem State.withObs_interruptStep : (s.withObs o).interruptStep = s.interruptStep.withObs o := by
  rw [State.interruptStep, State.interruptStep, apply_ite (State.withObs · o)]
  rfl

theorem State.withObs_finish : (s.withObs o).finish = s.finish.withObs o := by
  rcases s.finish_cases with ⟨hrun, hfinish⟩ | ⟨hstop, hfinish⟩
  · rw [hfinish, State.finish_of_running (s := s.withObs o) hrun, State.endCycle, State.withObs_externalStep,
      State.withObs_diskStep, State.withObs_timerStep, State.withObs_interruptStep]
    rfl
  · rw [hfinish, State.finish_of_ne_running (s := s.withObs o) hstop]

theorem State.withObs_ioRead (a : IorIdx) : ((s.withObs o).ioRead a).2 = (s.ioRead a).2.withObs o := by
  rw [State.ioRead, State.ioRead, apply_ite (State.withObs · o)]
  rfl

end

theorem State.withObs_addressFault (s : State) (o : Observations) (ea : Word) :
    ∃ o', (s.withObs o).addressFault ea = (s.addressFault ea).withObs o' := by
  have hpolicy : (s.withObs o).params.faultPolicy = s.params.faultPolicy := rfl
  unfold State.addressFault
  rw [hpolicy]
  cases s.params.faultPolicy with
  | hardFault => exact ⟨_, rfl⟩
  | legacyStall => exact ⟨_, rfl⟩

theorem State.withObs_emitReti (s : State) (o : Observations) (a : IorIdx) :
    ∃ o', (s.withObs o).emitReti a = (s.emitReti a).withObs o' := by
  by_cases hzero : a = 0
  · exact ⟨o, by rw [State.emitReti, if_pos hzero, State.emitReti, if_pos hzero]⟩
  · rw [State.emitReti, if_neg hzero, State.emitReti, if_neg hzero]
    exact ⟨_, rfl⟩

/-- The effect with other observation streams in its state. -/
def Effect.withObs (e : Effect) (o : Observations) : Effect :=
  match e with
  | .completed t => .completed (t.withObs o)
  | .raised t => .raised (t.withObs o)

theorem State.withObs_dmaIssue (s : State) (o : Observations) (v : Word) :
    (s.withObs o).dmaIssue v = (s.dmaIssue v).withObs o := by
  by_cases hlaunch : s.getIor Ior.diskstatus = 0 ∧ (v = 1 ∨ v = 2)
  · obtain ⟨hidle, hcode⟩ := hlaunch
    by_cases hrange : 127 < (s.getIor Ior.disksector).toNat ∨ 3968 < (s.getIor Ior.diskbuffer).toNat
    · rw [State.dmaIssue_of_outOfRange hidle hcode hrange, State.dmaIssue_of_outOfRange (s := s.withObs o) hidle hcode hrange]
      rfl
    · obtain ⟨hsector, hbuffer⟩ := not_or.mp hrange
      rw [State.dmaIssue_of_inRange hidle hcode (not_lt.mp hsector) (not_lt.mp hbuffer),
        State.dmaIssue_of_inRange (s := s.withObs o) hidle hcode (not_lt.mp hsector) (not_lt.mp hbuffer)]
      rfl
  · rw [State.dmaIssue_of_not_launches hlaunch, State.dmaIssue_of_not_launches (s := s.withObs o) hlaunch]
    rfl

/-- The five kinds of I/O write each emit into the streams they find. -/
theorem State.withObs_ioWrite (s : State) (o : Observations) (a : IorIdx) (v : Word) :
    ∃ o', (s.withObs o).ioWrite a v = (s.ioWrite a v).withObs o' := by
  by_cases hleds : a = Ior.leds
  · subst hleds
    exact ⟨_, rfl⟩
  by_cases hseg : a = Ior.display7seg
  · subst hseg
    exact ⟨_, rfl⟩
  by_cases hdisk : a = Ior.diskcmd
  · subst hdisk
    exact ⟨_, State.withObs_dmaIssue (s.stored Ior.diskcmd v) _ v⟩
  by_cases hmonitor : a = Ior.monitorcmd
  · subst hmonitor
    rw [State.ioWrite_monitorcmd, State.ioWrite_monitorcmd]
    by_cases hone : v = 1
    · rw [if_pos hone, if_pos hone]
      exact ⟨_, rfl⟩
    · rw [if_neg hone, if_neg hone]
      exact ⟨_, rfl⟩
  · rw [State.ioWrite_of_plain v hleds hseg hdisk hmonitor, State.ioWrite_of_plain v hleds hseg hdisk hmonitor]
    exact ⟨_, rfl⟩

/-- An I/O address names a word of the bank or lies above 22 (R201). -/
theorem ioAddr_cases (ioa : Word) : (∃ a : IorIdx, ioa.toNat = a.val) ∨ 22 < ioa.toNat := by
  by_cases hvalid : ioa.toNat < 23
  · exact .inl ⟨⟨ioa.toNat, hvalid⟩, rfl⟩
  · exact .inr (by omega)

/-- An instruction gives the same state with other streams from the same state with other streams. -/
theorem exec_withObs (i : Instr) (s : State) (o : Observations) :
    ∃ u o', exec i s = .next u ∧ exec i (s.withObs o) = .next (u.withObs o') := by
  cases i with
  | add | sub | mac | and | or | xor | sll | sra | srl | beq | bne | blt | bgt | ble | bge | jal => exact ⟨_, o, rfl, rfl⟩
  | lw rd rs rt rm i1 i2 =>
    rcases lt_or_ge (s.effAddr rs rt).toNat 4096 with haddr | haddr
    · exact ⟨_, o, exec_lw_of_lt _ _ _ _ _ _ haddr, exec_lw_of_lt (s := s.withObs o) _ _ _ _ _ _ haddr⟩
    · obtain ⟨o', hfault⟩ := s.withObs_addressFault o (s.effAddr rs rt)
      exact ⟨_, o', exec_lw_of_ge _ _ _ _ _ _ haddr,
        (exec_lw_of_ge (s := s.withObs o) _ _ _ _ _ _ haddr).trans (congrArg _ hfault)⟩
  | sw rd rs rt rm i1 i2 =>
    rcases lt_or_ge (s.effAddr rs rt).toNat 4096 with haddr | haddr
    · exact ⟨_, o, exec_sw_of_lt _ _ _ _ _ _ haddr, exec_sw_of_lt (s := s.withObs o) _ _ _ _ _ _ haddr⟩
    · obtain ⟨o', hfault⟩ := s.withObs_addressFault o (s.effAddr rs rt)
      exact ⟨_, o', exec_sw_of_ge _ _ _ _ _ _ haddr,
        (exec_sw_of_ge (s := s.withObs o) _ _ _ _ _ _ haddr).trans (congrArg _ hfault)⟩
  | reti rd rs rt rm i1 i2 =>
    rcases ioAddr_cases (s.ioAddr rs rt) with ⟨a, haddr⟩ | haddr
    · obtain ⟨o', hemit⟩ := s.returnFromInterrupt.withObs_emitReti o a
      exact ⟨_, o', exec_reti_of_ioAddr _ _ _ _ _ _ haddr,
        (exec_reti_of_ioAddr (s := s.withObs o) _ _ _ _ _ _ haddr).trans (congrArg _ hemit)⟩
    · exact ⟨_, _, exec_reti_of_ioAddr_gt _ _ _ _ _ _ haddr, exec_reti_of_ioAddr_gt (s := s.withObs o) _ _ _ _ _ _ haddr⟩
  | ioIn rd rs rt rm i1 i2 =>
    rcases ioAddr_cases (s.ioAddr rs rt) with ⟨a, haddr⟩ | haddr
    · rw [exec_ioIn_of_ioAddr (s := s.withObs o) _ _ _ _ _ _ haddr, State.withObs_ioRead]
      exact ⟨_, _, exec_ioIn_of_ioAddr _ _ _ _ _ _ haddr, rfl⟩
    · exact ⟨_, _, exec_ioIn_of_ioAddr_gt _ _ _ _ _ _ haddr, exec_ioIn_of_ioAddr_gt (s := s.withObs o) _ _ _ _ _ _ haddr⟩
  | ioOut rd rs rt rm i1 i2 =>
    rcases ioAddr_cases (s.ioAddr rs rt) with ⟨a, haddr⟩ | haddr
    · obtain ⟨o', hsame⟩ := s.withObs_ioWrite o a (s.readReg rm)
      cases hwrite : s.ioWrite a (s.readReg rm) with
      | completed t =>
        rw [hwrite] at hsame
        exact ⟨_, o', exec_ioOut_of_completed _ _ _ _ _ _ haddr hwrite,
          exec_ioOut_of_completed (s := s.withObs o) _ _ _ _ _ _ haddr hsame⟩
      | raised t =>
        rw [hwrite] at hsame
        exact ⟨_, o', exec_ioOut_of_raised _ _ _ _ _ _ haddr hwrite,
          exec_ioOut_of_raised (s := s.withObs o) _ _ _ _ _ _ haddr hsame⟩
    · exact ⟨_, _, exec_ioOut_of_ioAddr_gt _ _ _ _ _ _ haddr, exec_ioOut_of_ioAddr_gt (s := s.withObs o) _ _ _ _ _ _ haddr⟩
  | halt rd rs rt rm i1 i2 =>
    by_cases hidle : s.diskTimer = 0
    · exact ⟨_, o, exec_halt_of_idle _ _ _ _ _ _ hidle, exec_halt_of_idle (s := s.withObs o) _ _ _ _ _ _ hidle⟩
    · exact ⟨_, o, exec_halt_of_counting _ _ _ _ _ _ hidle, exec_halt_of_counting (s := s.withObs o) _ _ _ _ _ _ hidle⟩

/-- Settles O57: the prepared state, the instruction and the rest of the cycle each commute with a change of the streams. -/
theorem streamsAreNeverRead : Obligations.StreamsAreNeverRead := by
  intro s t o hstep
  change ∃ o', step (s.withObs o) = .next (t.withObs o')
  rcases step_cases hstep with ⟨hhalted, rfl⟩ | ⟨hrun, e, hdecode, rfl⟩ | ⟨hrun, i, u, hdecode, hexec, rfl⟩
  · exact ⟨o, step_of_halted (s := t.withObs o) hhalted⟩
  · exact ⟨_, step_of_decode_error (s := s.withObs o) hrun hdecode⟩
  · obtain ⟨v, o', hv, hexec'⟩ := exec_withObs i s.prepared (s.withObs o).prepared.obs
    obtain rfl : u = v := Host.Outcome.next.inj (hexec.symm.trans hv)
    refine ⟨o', ?_⟩
    rw [step_of_exec (s := s.withObs o) ⟨hrun, hdecode⟩ hexec', State.withObs_finish]

/-! ### Growing streams (R270) -/

/-- Every stream of `o'` begins with the one of `o`, and no monitor range error is new (R227). -/
def Observations.Extends (o o' : Observations) : Prop :=
  o.instrTrace <+: o'.instrTrace ∧ o.hwRegTrace <+: o'.hwRegTrace ∧ o.ledLog <+: o'.ledLog ∧ o.segLog <+: o'.segLog ∧
    o.errors <+: o'.errors ∧ ∀ e ∈ o'.errors, e.kind = .monitorRangeError → e ∈ o.errors

theorem Observations.Extends.refl (o : Observations) : o.Extends o := by
  simp +contextual [Observations.Extends]

theorem Observations.Extends.trans {o o' o'' : Observations} (h : o.Extends o') (h' : o'.Extends o'') : o.Extends o'' := by
  obtain ⟨hinstr, hhw, hled, hseg, herrors, hmonitor⟩ := h
  obtain ⟨hinstr', hhw', hled', hseg', herrors', hmonitor'⟩ := h'
  exact ⟨hinstr.trans hinstr', hhw.trans hhw', hled.trans hled', hseg.trans hseg', herrors.trans herrors',
    fun e he hkind => hmonitor e (hmonitor' e he hkind) hkind⟩

/-- A report of one of the other two kinds. -/
theorem State.report_extends (s : State) {k : ErrorKind} (hkind : k ≠ .monitorRangeError) (info : Word) :
    s.obs.Extends (s.report k info).obs := by
  refine ⟨List.prefix_refl _, List.prefix_refl _, List.prefix_refl _, List.prefix_refl _, List.prefix_append _ _,
    fun e he hmonitor => ?_⟩
  rcases List.mem_append.mp he with hold | hnew
  · exact hold
  · rw [List.mem_singleton.mp hnew] at hmonitor
    exact absurd hmonitor hkind

theorem State.emitHw_extends (s : State) (dir : TraceDir) (a : IorIdx) (v : Word) :
    s.obs.Extends (s.emitHw dir a v).obs := by
  simp +contextual [Observations.Extends, State.emitHw_obs]

theorem State.addressFault_extends (s : State) (ea : Word) : s.obs.Extends (s.addressFault ea).obs := by
  unfold State.addressFault
  cases s.params.faultPolicy with
  | hardFault => exact .refl _
  | legacyStall => exact s.report_extends (by decide) ea

theorem State.emitReti_extends (s : State) (a : IorIdx) : s.obs.Extends (s.emitReti a).obs := by
  unfold State.emitReti
  split
  · exact .refl _
  · exact s.emitHw_extends _ _ _

/-- An instruction that emits appends, and reports a memory or an I/O address at most. -/
theorem exec_extends {i : Instr} {s u : State} (hexec : exec i s = .next u) : s.obs.Extends u.obs := by
  cases exec_cases hexec with
  | addressFault _ _ hu => exact hu ▸ s.addressFault_extends _
  | ioError _ _ hu => exact hu ▸ s.report_extends (by decide) _
  | reti a _ _ hu => exact hu ▸ s.returnFromInterrupt.emitReti_extends a
  | ioIn a _ _ hu => simp +contextual [hu, State.emitHw_obs, Observations.Extends]
  | outLed _ _ hu => simp +contextual [hu, State.emitLed_obs, State.emitHw_obs, Observations.Extends]
  | outSeg _ _ hu => simp +contextual [hu, State.emitSeg_obs, State.emitHw_obs, Observations.Extends]
  | outPlain _ _ _ hu | outCommit _ _ _ hu | outLaunch _ _ _ _ _ _ hu | outFault _ _ _ _ _ hu =>
    simp +contextual [hu, State.emitHw_obs, Observations.Extends]
  | alu _ _ hu | branch _ _ hu | jal _ _ hu | load _ _ _ hu | store _ _ _ hu | halted _ _ hu | parked _ _ hu =>
    simp +contextual [hu, Observations.Extends]

theorem State.prepared_extends (s : State) : s.obs.Extends s.prepared.obs := by
  simp +contextual [Observations.Extends, State.prepared_obs]

/-- Settles O58: phase P5 appends its event, phase P6 extends the streams, and no other phase touches them. -/
theorem streamsOnlyGrow : Obligations.StreamsOnlyGrow := by
  intro s t hstep
  change s.obs.Extends t.obs
  rcases step_cases hstep with ⟨-, rfl⟩ | ⟨-, _, -, rfl⟩ | ⟨-, i, u, -, hexec, rfl⟩
  · exact .refl _
  · exact s.prepared_extends
  · rw [State.finish_obs]
    exact s.prepared_extends.trans (exec_extends hexec)

end Sys2Proof.Machine
end

section
/-!
A parked `halt` (44_io_system.md R207, 60_exceptions.md R257, D22): what one parked cycle keeps, then as many of them as the
countdown has left, then the halting one.
-/

namespace Sys2Proof.Machine

/-! ### Runs of the machine -/

theorem run_succ_of_step {s t : State} (hstep : step s = .next t) (k : Nat) :
    Host.Core.run Sys2Proof.core (k + 1) s = Host.Core.run Sys2Proof.core k t := by
  have hcore : Sys2Proof.core.step s = .next t := hstep
  simp only [Host.Core.run, hcore]

/-- One more step at the end of a run that answers a state. -/
theorem run_succ_of_run {k : Nat} {s u t : State} (hrun : Host.Core.run Sys2Proof.core k s = .next u)
    (hstep : step u = .next t) : Host.Core.run Sys2Proof.core (k + 1) s = .next t := by
  induction k generalizing s with
  | zero =>
    obtain rfl : s = u := Host.Outcome.next.inj hrun
    exact run_succ_of_step hstep 0
  | succ k ih =>
    cases hfirst : step s with
    | next v =>
      rw [run_succ_of_step hfirst] at hrun ⊢
      exact ih hrun
    | fault r =>
      have hcore : Sys2Proof.core.step s = .fault r := hfirst
      simp [Host.Core.run, hcore] at hrun
    | refused r =>
      have hcore : Sys2Proof.core.step s = .refused r := hfirst
      simp [Host.Core.run, hcore] at hrun

/-! ### The words of the bank in the rest of a cycle -/

/-- The three enable words are 0. -/
def State.Masked (s : State) : Prop :=
  s.getIor Ior.irq0enable = 0 ∧ s.getIor Ior.irq1enable = 0 ∧ s.getIor Ior.irq2enable = 0

theorem State.Masked.interruptStep {s : State} (hmasked : s.Masked) : s.interruptStep = s := by
  obtain ⟨h0, h1, h2⟩ := hmasked
  refine State.interruptStep_of_masked ?_
  rw [State.interruptLine, State.contribution, State.contribution, State.contribution, h0, h1, h2]
  simp

theorem State.getIor_externalStep_of_ne (s : State) {a : IorIdx} (hne : a ≠ Ior.irq2status) :
    s.externalStep.getIor a = s.getIor a := by
  rcases s.externalStep_cases with ⟨-, hstep⟩ | ⟨-, hstep⟩
  · rw [hstep, State.setSchedPtr_getIor, State.getIor_setIor, if_neg hne]
  · rw [hstep]

theorem State.getIor_timerStep_of_ne (s : State) {a : IorIdx} (hcurrent : a ≠ Ior.timercurrent)
    (hstatus : a ≠ Ior.irq0status) : s.timerStep.getIor a = s.getIor a := by
  obtain ⟨hwords, -⟩ := (State.SameButTimer.refl s).timerStep
  exact hwords a hcurrent hstatus

/-- In a cycle without an issue a disk step is one count of the countdown. -/
theorem State.diskStep_countedDown {s : State} (hissued : s.issuedThisCycle = false) (hcounting : s.diskTimer ≠ 0) :
    s.CountedDown s.diskTimer 1 s.diskStep :=
  State.iterate_diskStep_countedDown hissued hcounting 1

/-- A completion writes no enable word. -/
theorem State.CountedDown.masked {s t : State} {n k : Nat} (hdown : s.CountedDown n k t) (hmasked : s.Masked) :
    t.Masked := by
  obtain ⟨-, -, hwords⟩ := hdown
  simpa [State.Masked, hwords, State.getIor_diskComplete] using hmasked

/-- The words a completion leaves (R257). -/
def State.DiskDone (s : State) : Prop :=
  s.getIor Ior.diskstatus = 0 ∧ s.getIor Ior.diskcmd = 0 ∧ s.getIor Ior.irq1status = 1

/-! ### One parked cycle -/

/-- What `k` cycles of a parked `halt` have made of `s`. -/
structure State.ParkedFor (s : State) (i : Instr) (k : Nat) (t : State) : Prop where
  runs : t.Runs i
  masked : t.Masked
  pc : t.pc = s.pc
  timer : t.diskTimer = s.diskTimer - k
  cycle : t.cycle = s.cycle + k
  memories : s.SameMemories t
  regs : ∀ r, r ≠ 1 → r ≠ 2 → t.readReg r = s.readReg r
  done : s.diskTimer ≠ 0 → t.diskTimer = 0 → t.DiskDone

/-- With the interrupts masked and no issue in it, the rest of a cycle counts the cycle and the disk, and writes words of the
external source and the timer besides. -/
theorem State.Masked.endCycle {s : State} (hmasked : s.Masked) (hissued : s.issuedThisCycle = false)
    (hcounting : s.diskTimer ≠ 0) :
    s.endCycle.Masked ∧ s.endCycle.pc = s.pc ∧ s.endCycle.diskTimer = s.diskTimer - 1 ∧
      (s.endCycle.diskTimer = 0 → s.endCycle.DiskDone) := by
  obtain ⟨-, -, hpc, -, -, -, -, -, -, -, htimer, hmark⟩ := s.externalStep_frame
  have hexternal : s.externalStep.Masked := by
    simpa [State.Masked, State.getIor_externalStep_of_ne] using hmasked
  have hdown := State.diskStep_countedDown (hmark.trans hissued) (htimer.symm ▸ hcounting)
  have hdevices : s.externalStep.diskStep.timerStep.Masked := by
    simpa [State.Masked, State.getIor_timerStep_of_ne] using hdown.masked hexternal
  have hend : s.endCycle = s.externalStep.diskStep.timerStep.setCycle (s.cycle + 1) := by
    rw [State.endCycle, hdevices.interruptStep]
  obtain ⟨-, hcount, hwords⟩ := hdown
  rw [hend]
  refine ⟨hdevices, by simp, by simp [hcount], fun hzero => ?_⟩
  have hlast : s.diskTimer ≤ 1 := by simpa [hcount, Nat.sub_eq_zero_iff_le] using hzero
  simp [State.DiskDone, State.getIor_timerStep_of_ne, hwords, hlast.not_gt, State.getIor_diskComplete]

/-- A `halt` with a countdown leaves the prepared state as it is, and the rest of the cycle follows. -/
theorem step_of_parked {s : State} {i : Instr} (hruns : s.Runs i) (hhalt : i.op = .halt) (hcounting : s.diskTimer ≠ 0) :
    step s = .next s.prepared.endCycle := by
  cases i with
  | halt rd rs rt rm i1 i2 =>
    obtain ⟨hrun, -⟩ := id hruns
    rw [step_of_exec hruns (exec_halt_of_counting (s := s.prepared) rd rs rt rm i1 i2 hcounting),
      State.finish_of_running (s := s.prepared) hrun]
  | _ => cases hhalt

/-- A `halt` without a countdown stops the prepared state and counts the cycle. -/
theorem step_of_halting {s : State} {i : Instr} (hruns : s.Runs i) (hhalt : i.op = .halt) (hidle : s.diskTimer = 0) :
    step s = .next ((s.prepared.setRunState .halted).setCycle (s.cycle + 1)) := by
  cases i with
  | halt rd rs rt rm i1 i2 =>
    exact step_of_exec hruns (exec_halt_of_idle (s := s.prepared) rd rs rt rm i1 i2 hidle)
  | _ => cases hhalt

/-! ### The whole countdown -/

theorem State.ParkedFor.zero {s : State} {i : Instr} (hruns : s.Runs i) (hmasked : s.Masked) : s.ParkedFor i 0 s where
  runs := hruns
  masked := hmasked
  pc := rfl
  timer := rfl
  cycle := rfl
  memories := State.sameMemories_of_eq rfl rfl rfl rfl
  regs _ _ _ := rfl
  done hne hzero := absurd hzero hne

theorem State.Masked.prepared {s : State} (hmasked : s.Masked) : s.prepared.Masked := by
  simpa [State.Masked, State.getIor_prepared] using hmasked

/-- One parked cycle more. -/
theorem State.ParkedFor.succ {s t : State} {i : Instr} {k : Nat} (hparked : s.ParkedFor i k t) (hcounting : t.diskTimer ≠ 0) :
    s.ParkedFor i (k + 1) t.prepared.endCycle := by
  obtain ⟨⟨hrun, hdecode⟩, hmasked, hpc, htimer, hcycle, ⟨himem, hdmem, hdisk, hfb⟩, hregs, -⟩ := hparked
  obtain ⟨hparams', hregs', himem', hdmem', hdisk', hfb', -, hrun', hcycle', -⟩ := t.prepared.endCycle_frame
  obtain ⟨hmasked', hpc', htimer', hdone⟩ := hmasked.prepared.endCycle rfl hcounting
  obtain ⟨jimem, jdmem, jdisk, jfb⟩ : t.SameMemories t.prepared.endCycle :=
    State.sameMemories_of_eq himem' hdmem' hdisk' hfb'
  have hfetch : t.prepared.endCycle.fetch = t.fetch := by
    rw [State.fetch, himem', hpc']
    rfl
  exact {
    runs := ⟨hrun'.trans hrun, by rw [hparams', hfetch]; exact hdecode⟩
    masked := hmasked'
    pc := hpc'.trans hpc
    timer := by
      have hone : t.prepared.endCycle.diskTimer = t.diskTimer - 1 := htimer'
      omega
    cycle := by
      have hone : t.prepared.endCycle.cycle = t.cycle + 1 := hcycle'
      omega
    memories := ⟨fun a => (jimem a).trans (himem a), fun a => (jdmem a).trans (hdmem a),
      fun a => (jdisk a).trans (hdisk a), fun a => (jfb a).trans (hfb a)⟩
    regs := fun r h1 h2 => (State.sameRegs_of_eq hparams' hregs' r).trans
      ((t.readReg_prepared_of_ne h1 h2).trans (hregs r h1 h2))
    done := fun _ => hdone }

/-- Up to the end of the countdown the machine is parked. -/
theorem exists_run_parkedFor {s : State} {i : Instr} (hruns : s.Runs i) (hhalt : i.op = .halt) (hmasked : s.Masked) (k : Nat)
    (hk : k ≤ s.diskTimer) : ∃ t, Host.Core.run Sys2Proof.core k s = .next t ∧ s.ParkedFor i k t := by
  induction k with
  | zero => exact ⟨s, rfl, .zero hruns hmasked⟩
  | succ k ih =>
    obtain ⟨t, hrun, hparked⟩ := ih (Nat.le_of_succ_le hk)
    have hcounting : t.diskTimer ≠ 0 := by
      have htimer := hparked.timer
      omega
    exact ⟨_, run_succ_of_run hrun (step_of_parked hparked.runs hhalt hcounting), hparked.succ hcounting⟩

/-- The words of a completion are not among those phases P1 and P2 write. -/
theorem State.DiskDone.prepared {s : State} (hdone : s.DiskDone) : s.prepared.DiskDone := by
  simpa [State.DiskDone, State.getIor_prepared] using hdone

/-- Settles O59: the machine is parked to the end of the countdown, and the `halt` it then finds with a disk timer of 0 halts
it. -/
theorem parkedHaltEndsWithTheCountdown : Obligations.ParkedHaltEndsWithTheCountdown := by
  intro s i hruns hhalt h0 h1 h2
  refine ⟨fun k hk => ?_, ?_⟩
  · obtain ⟨t, hrun, hparked⟩ := exists_run_parkedFor hruns hhalt ⟨h0, h1, h2⟩ k hk
    obtain ⟨hrunning, -⟩ := hparked.runs
    exact ⟨t, hrun, hrunning, hparked.pc, hparked.timer, hparked.cycle⟩
  · obtain ⟨t, hrun, hparked⟩ := exists_run_parkedFor hruns hhalt ⟨h0, h1, h2⟩ s.diskTimer le_rfl
    have hidle : t.diskTimer = 0 := hparked.timer.trans (Nat.sub_self _)
    refine ⟨_, run_succ_of_run hrun (step_of_halting hparked.runs hhalt hidle), rfl, hparked.pc,
      congrArg (· + 1) hparked.cycle, hidle, hparked.memories, fun r hr1 hr2 => ?_,
      fun hne => (hparked.done hne hidle).prepared⟩
    exact (t.readReg_prepared_of_ne hr1 hr2).trans (hparked.regs r hr1 hr2)

end Sys2Proof.Machine
end
